-- ==== Sys2Proof/Word.lean ====
section
/-! DEFINITION. The two word types of the host port: a byte of exchange memory and a 16-bit port word. -/

namespace Sys2Proof

/-- One byte of exchange memory (R168: BLE_N and BHE_N select single bytes). -/
abbrev Byte := BitVec 8

/-- One word of the 16-bit host port, D[15:0] (R168). -/
abbrev Word := BitVec 16

end Sys2Proof
end

