-- ==== Sys2Proof/Config.lean ====
section
/-! DEFINITION. What the Fargrid 240 fixes: the host address map (Table 10-1), the places of the fields
(chapter 12) and the capacities. The spec leaves no value of an event open, so there is no free value here:
where it leaves an ORDER open (R104: which of two waiting lookups is served first; every "fall together" rule)
the order of the commands, or an operand of one, makes the choice. -/

namespace Sys2Proof.Config

/-! ### Exchange memory (Table 10-1) -/

/-- Number of request cells. -/
abbrev cellCount : Nat := 32
/-- Bytes of one cell. -/
abbrev cellSize : Nat := 64
/-- First address after the cells, and first byte of the journey mirror. -/
abbrev mirrorBase : Nat := 0x0800
/-- Bytes of the journey mirror. -/
abbrev mirrorSize : Nat := 64
/-- First byte of the host scratch area. -/
abbrev scratchBase : Nat := 0x0840
/-- First byte of the context region (service tables). -/
abbrev contextBase : Nat := 0x1000
/-- First byte of the bulk area (deny batches). -/
abbrev bulkBase : Nat := 0x3000
/-- First address after exchange memory. -/
abbrev memoryEnd : Nat := 0x8000

/-! ### Registers (Table 11-3) -/

abbrev engStatusAddr : Nat := 0x8000
abbrev engControlAddr : Nat := 0x8002
abbrev noticeAddr : Nat := 0x8004
abbrev eventFlagsAddr : Nat := 0x8006
abbrev eventEnableAddr : Nat := 0x8008

/-! ### Cell parts (Table 12-2) -/

abbrev kindOffset : Nat := 1
abbrev tagOffset : Nat := 2
abbrev paramOffset : Nat := 4
abbrev bodyOffset : Nat := 8
abbrev bodySize : Nat := 32
abbrev answerOffset : Nat := 40
abbrev answerSize : Nat := 24

/-! ### Service tables (Table 12-13) -/

abbrev headerBase : Nat := 0x1000
abbrev issuerBase : Nat := 0x1010
abbrev classBase : Nat := 0x1052
abbrev fareBase : Nat := 0x105C
abbrev routeBase : Nat := 0x107E

/-- First byte and length, check word included, of service table 1 to 5 (Table 12-13). -/
def tableExtent : Nat → Nat × Nat
  | 1 => (headerBase, 16)
  | 2 => (issuerBase, 66)
  | 3 => (classBase, 10)
  | 4 => (fareBase, 34)
  | _ => (routeBase, 194)

/-! ### Capacities and limits -/

/-- Entries the round list holds (R83). -/
abbrev roundListSize : Nat := 256
/-- Entries the deny list holds (R101). -/
abbrev denyListSize : Nat := 4096
/-- Most records of one deny batch (R107). -/
abbrev batchMax : Nat := 1024
/-- Bytes of one piece of a table-unit check job (R164). -/
abbrev pieceSize : Nat := 64
/-- The absent stop index or class override, the missing slice, the entry index of a whole table. -/
abbrev absent : Nat := 0xFF
/-- The expiry day that means no expiry, and the stopping index that means none. -/
abbrev noneWord : Nat := 0xFFFF
/-- CLK32 edges of one second (R66). -/
abbrev edgesPerSecond : Nat := 32768
/-- Largest step, in seconds, that a CLOCK-SET may make under the trim limit (R71). -/
abbrev trimLimit : Nat := 600
/-- Largest day and largest round (R67, R132). -/
abbrev wordMax : Nat := 65535

end Sys2Proof.Config
end

