-- ==== Sys2Proof/Syntax.lean ====
section
/-! DEFINITION. The commands: one constructor for each row of spec/opcode_table.json, in the table's order.

The table gives no row an operand field. A row that is a host access carries what the access puts on the port
(R168): the word address where the row does not fix it, the data word and the byte lanes. A row that is an event
of the engine carries nothing: what it works on stands in the state (the head of an intake queue, the job being
served). DENY_LOOKUP alone names which waiting lookup is served, since R104 leaves that open. -/

namespace Sys2Proof

/-- The byte lanes of one host access: BLE_N (even byte, D[7:0]) and BHE_N (odd byte, D[15:8]), as asserted. -/
structure Lanes where
  low : Bool
  high : Bool
deriving DecidableEq, Repr

/-- The two registers whose writes are ignored (R194, Table 11-3). -/
inductive ReadOnlyReg where
  | engStatus
  | notice
deriving DecidableEq, Repr

/-- The two requesters of the deny list unit's lookups (R104). -/
inductive LookupRequester where
  | verdictEngine
  | tableUnit
deriving DecidableEq, Repr

/-- One command: a host access, a reset pin, a clock input's event or a step of one of the engine's blocks. -/
inductive Instr where
  /-- POWER_ON (R184): RESET_N is asserted. -/
  | powerOn
  /-- ENGINE_RESET (R185): a host write to ENG_CONTROL whose bit 0 is 1. -/
  | engineReset (data : Word) (lanes : Lanes)
  /-- ANSWER_MODE (R196): a host write to ENG_CONTROL. -/
  | answerMode (data : Word) (lanes : Lanes)
  /-- WATERMARK (R192): a host write to ENG_CONTROL. -/
  | watermark (data : Word) (lanes : Lanes)
  /-- JOURNEY_FIRST (R194): a host write to ENG_CONTROL. -/
  | journeyFirst (data : Word) (lanes : Lanes)
  /-- REARM (R191): a host write to ENG_CONTROL whose bit 3 is 1. -/
  | rearm (data : Word) (lanes : Lanes)
  /-- EVENT_FLAGS_CLEAR (R188): a host write to EVENT_FLAGS. -/
  | eventFlagsClear (data : Word) (lanes : Lanes)
  /-- EVENT_ENABLE_WRITE (R189): a host write to EVENT_ENABLE. -/
  | eventEnableWrite (data : Word) (lanes : Lanes)
  /-- REGISTER_WRITE_IGNORED (R199): a host write to ENG_STATUS or NOTICE. -/
  | registerWriteIgnored (reg : ReadOnlyReg) (data : Word) (lanes : Lanes)
  /-- MIRROR_WORD0_READ (R141): a host read of the word at 0800h. -/
  | mirrorWord0Read (lanes : Lanes)
  /-- HOST_WRITE (R170): a host write to the word at an even address. -/
  | hostWrite (addr : Word) (data : Word) (lanes : Lanes)
  /-- ARRIVAL (R174): a host write of READY to a state byte, with the kind byte in the same access or without. -/
  | arrival (cell : Fin 32) (kind : Option Byte)
  /-- WITHDRAWAL (R177): a host write of EMPTY to a state byte. -/
  | withdrawal (cell : Fin 32)
  /-- RELEASE (R178): a host write of EMPTY to a state byte. -/
  | release (cell : Fin 32)
  /-- CLK32_EDGE (R68): a rising edge of CLK32. -/
  | clk32Edge
  /-- SECOND_ADVANCE (R66): the rising edge of CLK32 that brings the sub-second count to 32,768. -/
  | secondAdvance
  /-- LOSS_TIMER_EXPIRY (R68): 1 ms of CLKIN has passed with no restart of the loss timer. -/
  | lossTimerExpiry
  /-- INSPECT (R15): the verdict engine takes the head of the inspection queue. -/
  | inspect
  /-- CHECK_JOB_END (R163): the check unit takes the last bit of the job it serves. -/
  | checkJobEnd
  /-- CHECK_PIECE_END (R164): a piece of a table-unit job ends and the job is not finished. -/
  | checkPieceEnd
  /-- DENY_LOOKUP (R103): the deny list unit completes the waiting lookup of the requester named. -/
  | denyLookup (who : LookupRequester)
  /-- INSPECT_COMPLETION (R33): the completion event of the inspection in flight. -/
  | inspectCompletion
  /-- DEPART (R125): the journey unit serves a JOURNEY cell with event 1. -/
  | depart
  /-- ARRIVE (R127): the journey unit serves a JOURNEY cell with event 2. -/
  | arrive
  /-- PASS (R128): the journey unit serves a JOURNEY cell with event 3. -/
  | pass
  /-- SET (R129): the journey unit serves a JOURNEY cell with event 4. -/
  | set
  /-- CLOCK_SET (R72): the journey unit serves a CLOCK-SET cell. -/
  | clockSet
  /-- SERVICE_OPEN (R149): the table unit takes a SERVICE-OPEN cell. -/
  | serviceOpen
  /-- SERVICE_OPEN_COMPLETION (R153): the completion event of a SERVICE-OPEN. -/
  | serviceOpenCompletion
  /-- SERVICE_CLOSE (R156): the table unit takes a SERVICE-CLOSE cell. -/
  | serviceClose
  /-- SERVICE_CLOSE_COMPLETION (R157): the completion event of a SERVICE-CLOSE that waited. -/
  | serviceCloseCompletion
  /-- DENY_BATCH (R107): the table unit takes a DENY-BATCH cell. -/
  | denyBatch
  /-- ADD (R111): the deny list unit completes an ADD edit. -/
  | add
  /-- DELETE (R112): the deny list unit completes a DELETE edit. -/
  | delete
  /-- CLEAR (R112): the deny list unit completes a CLEAR edit. -/
  | clear
  /-- DENY_PROBE (R116): the table unit takes a DENY-PROBE cell. -/
  | denyProbe
  /-- SWEEP_STEP (R119): the deny list unit completes one step of the sweep. -/
  | sweepStep
  /-- JOURNEY_BAD_EVENT (R124): the journey unit serves a JOURNEY cell whose event is not 1 to 4. -/
  | journeyBadEvent
deriving DecidableEq, Repr

end Sys2Proof
end

