-- ==== Sys2Proof/WellFormed.lean ====
section
/-! DEFINITION. Which commands spell the access or event their row names. The meanings are total and do not look
at this predicate: an access that is not well formed still runs by the rules of the port and of the register it
addresses. -/

namespace Sys2Proof

/-- A write to ENG_CONTROL that reaches its fields, which all lie in the low lane (Table 12-15), and does not
carry ENGINE_RESET. -/
def plainControlWrite (data : Word) (lanes : Lanes) : Bool :=
  lanes.low && !data.getLsbD 0

/-- The command is an instance of its row. -/
def Instr.wellFormed : Instr → Bool
  | .engineReset data lanes => lanes.low && data.getLsbD 0
  | .answerMode data lanes => plainControlWrite data lanes
  | .watermark data lanes => plainControlWrite data lanes
  | .journeyFirst data lanes => plainControlWrite data lanes
  | .rearm data lanes => plainControlWrite data lanes && data.getLsbD 3
  | .mirrorWord0Read lanes => lanes.low || lanes.high
  | .hostWrite addr _ lanes => !addr.getLsbD 0 && (lanes.low || lanes.high)
  | .powerOn => true
  | .eventFlagsClear _ _ => true
  | .eventEnableWrite _ _ => true
  | .registerWriteIgnored _ _ _ => true
  | .arrival _ _ => true
  | .withdrawal _ => true
  | .release _ => true
  | .clk32Edge => true
  | .secondAdvance => true
  | .lossTimerExpiry => true
  | .inspect => true
  | .checkJobEnd => true
  | .checkPieceEnd => true
  | .denyLookup _ => true
  | .inspectCompletion => true
  | .depart => true
  | .arrive => true
  | .pass => true
  | .set => true
  | .clockSet => true
  | .serviceOpen => true
  | .serviceOpenCompletion => true
  | .serviceClose => true
  | .serviceCloseCompletion => true
  | .denyBatch => true
  | .add => true
  | .delete => true
  | .clear => true
  | .denyProbe => true
  | .sweepStep => true
  | .journeyBadEvent => true

end Sys2Proof
end

