-- ==== Sys2Proof/Decode.lean ====
section
/-! DEFINITION. The commands of a block are host accesses, pins and events: spec/opcode_table.json gives no row any
bits, so no word spells a command. -/

namespace Sys2Proof

/-- The command that a word spells by the table's bits. No row of the table gives bits, so none. -/
def decodeTableWord (_nbits _w : Nat) : Option Instr :=
  none

end Sys2Proof
end

