-- ==== Sys2Proof/Machine/State.lean ====
section
/-! DEFINITION. The state of the Fargrid 240 as plain data, block by block, and the state after power-on. Every
field names the rule of spec/ that gives it. Views of the same storage are computed elsewhere and not stored
twice: a cell's state is its state byte (R171), the guards follow from the cell states, the batch in flight and
the service state (R182), ENG_STATUS and NOTICE are what a read of them works out (R194, R195). -/

namespace Sys2Proof.Machine

/-- Why the machine could stop with a fault. It has no constructor: the spec gives every command an effect in
every state, a write to addresses without storage included (R168), so no meaning raises one. -/
inductive Fault where
deriving DecidableEq, Repr

/-- Why a command could be refused. -/
inductive Refusal where
  /-- Raised by an arm of `exec` whose command has no meaning yet; no arm raises it now. Safe: the machine stops
  where the hardware goes on. -/
  | notModelled (mnemonic : String)
deriving DecidableEq, Repr

/-! ### Codes -/

/-- The service state (R147, Table 12-14). -/
inductive ServiceState where
  | noService
  | checking
  | inService
  | terminated
deriving DecidableEq, Repr

/-- The kind of a train position (R122, Table 12-14); `nowhere` is NONE. -/
inductive PosKind where
  | nowhere
  | atStop
  | inSection
deriving DecidableEq, Repr

/-- The four states of a cell (R171). -/
inductive CellState where
  | empty
  | ready
  | taken
  | done
deriving DecidableEq, Repr

/-- The seven known request kinds (Table 10-2). -/
inductive RequestKind where
  | inspect
  | journey
  | clockSet
  | serviceOpen
  | serviceClose
  | denyBatch
  | denyProbe
deriving DecidableEq, Repr

/-- The three intake queues (R176). -/
inductive QueueId where
  | inspection
  | journey
  | table
deriving DecidableEq, Repr

/-- The state of the timebase (R68). -/
inductive Timebase where
  | idle
  | running
  | lost
deriving DecidableEq, Repr

/-- The modes of the ANSWER cause (R190). -/
inductive AnswerMode where
  | off
  | first
  | each
deriving DecidableEq, Repr

/-- The verdicts (Table 2-4). -/
inductive Verdict where
  | valid
  | validGrace
  | repeat
  | shortfall
  | noCover
  | expired
  | notYetValid
  | exhausted
  | revoked
  | passback
  | unreadable
  | notAccepted
  | noService
  | badRequest
  | aborted
deriving DecidableEq, Repr

/-! ### Exchange memory -/

/-- Exchange memory: the bytes that are not 0, by rising address. An address not listed reads 0 (R169: after
power-on every byte is 0). -/
abbrev Memory := List Host.Cell

/-! ### Cell intake -/

/-- What cell intake keeps beside the state bytes. -/
structure Intake where
  /-- The kind byte at each cell's most recent arrival (R171). -/
  arrivalKind : Vector Byte 32
  /-- The inspection queue, oldest arrival first (R176). -/
  inspection : List (Fin 32)
  /-- The journey queue, oldest arrival first (R176). -/
  journey : List (Fin 32)
  /-- The table queue, oldest arrival first (R176). -/
  table : List (Fin 32)
deriving DecidableEq, Repr

/-! ### The verdict engine -/

/-- The journey snapshot an inspection copies at its take (R16). -/
structure Snapshot where
  service : ServiceState
  round : Nat
  stop : Nat
  kind : PosKind
  day : Nat
  minute : Nat
  serviceDay : Nat
  clockValid : Bool
deriving DecidableEq, Repr

/-- How far an inspection in flight has come. -/
inductive Stage where
  /-- Stage 1: the image check is with the check unit (R20). -/
  | integrity
  /-- Stage 4: the lookup waits at the deny list unit (R22). -/
  | deny
  /-- The verdict is given and the compose job is with the check unit (R30). -/
  | composing (verdict : Verdict)
  /-- The verdict is given and the completion event is due (R33). -/
  | judged (verdict : Verdict)
deriving DecidableEq, Repr

/-- An inspection in flight: the cell held, the snapshot, the image under composition (R14) and the working
values (R44). A working value not formed stands at the value the answer carries for it (R35). -/
structure Flight where
  /-- The cell in flight. -/
  cell : Fin 32
  /-- The journey snapshot. -/
  snap : Snapshot
  /-- How far the inspection has come. -/
  stage : Stage
  /-- The boarding and alighting stop of the request ride, re-based for an accepted CHECKIN (R19, R52). -/
  ride : Option (Nat × Nat)
  /-- The ride zone set; T is the number of its members (R51). -/
  zones : List Nat
  /-- Slice A and slice B of the issuer entry found (R46). -/
  slices : Option (Nat × Nat)
  /-- The covered set (R47). -/
  covered : List Nat
  /-- C, the number of the ride's zones that are covered (R53). -/
  coveredCount : Nat
  /-- A ride is noted as due (R26). -/
  rideDue : Bool
  /-- The image has passed integrity and field sanity (R3). -/
  sane : Bool
  /-- The detail code of the verdict (R37). -/
  detail : Byte
  /-- The GRACE flag (R25). -/
  grace : Bool
  /-- The TIME_UNCHECKED flag (R25). -/
  timeUnchecked : Bool
  /-- The reason of a deny hit (R22). -/
  denyReason : Nat
  /-- The raised presented count of a PASSBACK or REPEAT (R86). -/
  presented : Nat
  /-- The amount stored in the round-list entry a REPEAT finds (R24). -/
  storedAmount : Nat
  /-- The image under composition (R14). -/
  image : Option (List Byte)
  /-- A ride is taken by this inspection (R91). -/
  consumed : Bool
  /-- The sequence of the new mark, or a REPEAT's stored sequence (R30, R24). -/
  sequence : Nat
deriving DecidableEq, Repr

/-- The verdict engine (R14). -/
structure VerdictEngine where
  /-- The inspection in flight; none when the engine is idle. -/
  flight : Option Flight
  /-- The mark sequence counter, 0 to 255. -/
  counter : Nat
deriving DecidableEq, Repr

/-! ### The journey unit -/

/-- The service clock (R65). -/
structure Clock where
  day : Nat
  minute : Nat
  second : Nat
  /-- CLK32 edges counted towards the next second. -/
  subSecond : Nat
  /-- The clock valid flag (R69). -/
  valid : Bool
  /-- The timebase state (R68). -/
  timebase : Timebase
  /-- The loss timer runs (R68). What it has measured of its 1 ms is time, not modelled. -/
  lossTimer : Bool
deriving DecidableEq, Repr

/-- The record of the first-fault capture (R135). -/
structure CaptureRecord where
  round : Nat
  stop : Nat
  kind : PosKind
  day : Nat
  minute : Nat
  cell : Fin 32
  /-- The tag's two bytes, as in the cell. -/
  tag : Byte × Byte
  verdict : Verdict
  amount : Nat
deriving DecidableEq, Repr

/-- The journey unit apart from the clock (R122). -/
structure Journey where
  /-- The position kind; `nowhere` with stop 0 when no service is open. -/
  kind : PosKind
  stop : Nat
  round : Nat
  /-- The service day of the open service (R75). -/
  serviceDay : Nat
  /-- The capture: none is ARMED with its record cleared, a record is HELD (R135). -/
  capture : Option CaptureRecord
  /-- The mirror hold: the copy of mirror words 1 to 31 when one stands (R141). -/
  hold : Option (List Byte)
deriving DecidableEq, Repr

/-! ### The table unit -/

/-- What the table unit does with the cell it holds (R147). -/
inductive TableTask where
  /-- A SERVICE-OPEN: the table and entry the check has reached, and whether every check has passed. The entry
  is FFh while the residue of the table is being checked. -/
  | serviceOpen (table entry : Nat) (passed : Bool)
  /-- A SERVICE-CLOSE that waits for the verdict engine. -/
  | serviceClose
  /-- A DENY-BATCH: its offset, its count, the applied counter, and whether its check is over (R107 to R110). -/
  | denyBatch (offset count applied : Nat) (applying : Bool)
  /-- A DENY-PROBE whose lookup waits. -/
  | denyProbe
deriving DecidableEq, Repr

/-- The table unit (R147). -/
structure TableUnit where
  service : ServiceState
  /-- The cell held and what is done with it. -/
  held : Option (Fin 32 × TableTask)
deriving DecidableEq, Repr

/-! ### The round list -/

/-- An entry of the round list (R83). -/
structure RoundEntry where
  mediaId : Nat
  verdict : Verdict
  amount : Nat
  consumed : Bool
  sequence : Nat
  presented : Nat
deriving DecidableEq, Repr

/-! ### The deny list unit -/

/-- An entry of the deny list (R101). -/
structure DenyEntry where
  mediaId : Nat
  reason : Nat
  expiry : Nat
deriving DecidableEq, Repr

/-- One edit of a batch (R111, R112). -/
inductive Edit where
  | add (mediaId reason expiry : Nat)
  | delete (mediaId : Nat)
  | clear
deriving DecidableEq, Repr

/-- A sweep in progress: the sweep day and the media ID of the next entry to be examined (R118). -/
structure Sweep where
  day : Nat
  position : Nat
deriving DecidableEq, Repr

/-- The operation the deny list unit is serving (R105). -/
inductive DenyOp where
  /-- A lookup of the requester named. With none named, both requesters' lookups waited when the unit chose, and the one
  in service is that of the DENY_LOOKUP that completes it (R104 leaves it open, log entry 21). -/
  | lookup (who : Option LookupRequester)
  | sweepStep
  | edit
deriving DecidableEq, Repr

/-- The deny list unit. -/
structure DenyUnit where
  /-- The deny list, by rising media ID (R101). -/
  list : List DenyEntry
  /-- The sweep in progress, whose presence is the sweep active indication (R102, R118). -/
  sweep : Option Sweep
  /-- The day of a DAY_CHANGE that came while an operation was being served (R106). -/
  dayWaiting : Option Nat
  /-- The verdict engine's waiting lookup: media ID and day (R104). -/
  engineLookup : Option (Nat × Nat)
  /-- The table unit's waiting lookup: media ID (R104). -/
  probeLookup : Option Nat
  /-- The edit waiting or in service (R105). -/
  edit : Option Edit
  /-- The operation in service; none when the unit is free (R105). -/
  serving : Option DenyOp
deriving DecidableEq, Repr

/-! ### The check unit -/

/-- Whose job the check unit serves. -/
inductive CheckOwner where
  | verdictEngine
  | tableUnit
deriving DecidableEq, Repr

/-- The job or piece being served and the running remainder it began from (R162, R164). -/
structure CheckService where
  owner : CheckOwner
  remainder : Word
deriving DecidableEq, Repr

/-- A table-unit job: its run in exchange memory, the position reached and the remainder reached there (R162). -/
structure TableJob where
  base : Nat
  length : Nat
  position : Nat
  remainder : Word
deriving DecidableEq, Repr

/-- The check unit (R162). -/
structure CheckUnit where
  /-- The work in service; none when the unit is idle. -/
  serving : Option CheckService
  /-- The verdict-engine job slot: the run of the job waiting or being served. -/
  engineJob : Option (List Byte)
  /-- The table-unit job slot: the job waiting, being served or suspended. -/
  tableJob : Option TableJob
deriving DecidableEq, Repr

/-! ### The notice unit -/

/-- The notice unit (chapter 11). -/
structure NoticeUnit where
  /-- EVENT_FLAGS (R187). -/
  flags : BitVec 9
  /-- EVENT_ENABLE (R189). -/
  enable : BitVec 9
  /-- ANSWER_MODE (R190). -/
  mode : AnswerMode
  /-- The WATERMARK field, the watermark less 1 (R192). -/
  watermark : BitVec 3
  /-- JOURNEY_FIRST (R194). -/
  journeyFirst : Bool
  /-- The FIRST latch: none is ARMED, a cell index is HELD (R191). -/
  latch : Option (Fin 32)
  /-- The READY count (R181). -/
  readyCount : Nat
  /-- The DONE count (R181). -/
  doneCount : Nat
  /-- The DONE cells of arrival kind INSPECT (R181). -/
  inspectDone : Nat
  /-- The DONE cells of any other arrival kind (R181). -/
  otherDone : Nat
  /-- The level of the NOTE_N pin; true is high, not asserted (R194). -/
  noteN : Bool
deriving DecidableEq, Repr

/-! ### The whole machine -/

/-- The Fargrid 240. -/
structure State where
  /-- The 32,768 bytes of exchange memory, cells and journey mirror included (R168, R169). -/
  mem : Memory
  /-- Cell intake. -/
  intake : Intake
  /-- The verdict engine. -/
  engine : VerdictEngine
  /-- The service clock. -/
  clock : Clock
  /-- The journey unit apart from the clock. -/
  journey : Journey
  /-- The table unit with the service state. -/
  table : TableUnit
  /-- The round list, oldest entry first (R83). -/
  rounds : List RoundEntry
  /-- The deny list unit. -/
  deny : DenyUnit
  /-- The check unit. -/
  check : CheckUnit
  /-- The notice unit with the registers and the NOTE_N pin. -/
  notice : NoticeUnit
  /-- The word last driven on D[15:0] by a host read that is a command (R168). -/
  readData : Word
  /-- The commands that wait, first in, first out. -/
  pending : List Instr
deriving DecidableEq, Repr

/-- The machine right after RESET_N: each field as the rule named at its type gives it for power-on. The word on
D[15:0] has no reset value in the spec: DESIGN CHOICE (log entry 1), unsafe. -/
def State.reset : State where
  mem := []
  intake := { arrivalKind := Vector.replicate 32 0#8, inspection := [], journey := [], table := [] }
  engine := { flight := none, counter := 0 }
  clock := { day := 0, minute := 0, second := 0, subSecond := 0, valid := false, timebase := .idle,
             lossTimer := false }
  journey := { kind := .nowhere, stop := 0, round := 0, serviceDay := 0, capture := none, hold := none }
  table := { service := .noService, held := none }
  rounds := []
  deny := { list := [], sweep := none, dayWaiting := none, engineLookup := none, probeLookup := none,
            edit := none, serving := none }
  check := { serving := none, engineJob := none, tableJob := none }
  notice := { flags := 0#9, enable := 0x1FF#9, mode := .each, watermark := 0#3, journeyFirst := false,
              latch := none, readyCount := 0, doneCount := 0, inspectDone := 0, otherDone := 0, noteN := true }
  readData := 0#16
  pending := []

end Sys2Proof.Machine
end

