-- ==== Sys2Proof/Machine/Ops.lean ====
section
/-! DEFINITION. The named operations the meanings share: byte order, exchange memory, cells, the intake queues, a
take and a posting. -/

namespace Sys2Proof.Machine

/-! ### Bytes and byte order (R198) -/

/-- The low byte of a number. -/
def byteOf (n : Nat) : Byte :=
  BitVec.ofNat 8 n

/-- A 16-bit field as an engine-side field stores it: least significant byte first. -/
def le16 (n : Nat) : List Byte :=
  [byteOf n, byteOf (n / 256)]

/-- A 16-bit field as a medium-side field or a check word stores it: most significant byte first. -/
def be16 (n : Nat) : List Byte :=
  [byteOf (n / 256), byteOf n]

/-- The value of a field stored least significant byte first. -/
def leValue : List Byte → Nat
  | [] => 0
  | b :: bs => b.toNat + 256 * leValue bs

/-- The value of a field stored most significant byte first. -/
def beValue (bs : List Byte) : Nat :=
  leValue bs.reverse

/-- Exactly `n` bytes: those of `bs`, then zeros. -/
def padTo (n : Nat) (bs : List Byte) : List Byte :=
  (bs ++ List.replicate n 0#8).take n

/-- The even byte of a port word, D[7:0]. -/
def lowByte (w : Word) : Byte :=
  w.setWidth 8

/-- The odd byte of a port word, D[15:8]. -/
def highByte (w : Word) : Byte :=
  (w >>> 8).setWidth 8

/-- The port word with the given even and odd byte. -/
def wordOfBytes (low high : Byte) : Word :=
  high ++ low

/-- The bits of a port word that the selected lanes carry (R199). -/
def laneMask (lanes : Lanes) : Word :=
  wordOfBytes (if lanes.low then 0xFF#8 else 0#8) (if lanes.high then 0xFF#8 else 0#8)

/-- A Bool as the byte that carries it. -/
def flagByte (b : Bool) : Byte :=
  if b then 1#8 else 0#8

/-! ### Exchange memory -/

/-- The byte at an address; 0 where none is listed (R169). -/
def Memory.read : Memory → Nat → Byte
  | [], _ => 0#8
  | (k, c) :: m, a => if k = a then c else Memory.read m a

/-- Memory with the byte at an address replaced, in canonical form. -/
def Memory.write : Memory → Nat → Byte → Memory
  | [], a, b => if b = 0#8 then [] else [(a, b)]
  | (k, c) :: m, a, b =>
    if a < k then (if b = 0#8 then (k, c) :: m else (a, b) :: (k, c) :: m)
    else if a = k then (if b = 0#8 then m else (a, b) :: m)
    else (k, c) :: Memory.write m a b

/-- Every address of a list of cells is above `a`. -/
def Memory.above (a : Nat) (m : Memory) : Bool :=
  m.all fun e => a < e.1

/-- The canonical form: addresses strictly rising and inside exchange memory, no byte listed that is 0. -/
def Memory.wf : Memory → Bool
  | [] => true
  | (k, c) :: m => decide (k < Config.memoryEnd) && c != 0#8 && Memory.above k m && Memory.wf m

/-- The `n` bytes from an address. -/
def Memory.readList (m : Memory) (a n : Nat) : List Byte :=
  (List.range n).map fun i => m.read (a + i)

/-- Memory with bytes written from an address upward. -/
def Memory.writeList : Memory → Nat → List Byte → Memory
  | m, _, [] => m
  | m, a, b :: bs => Memory.writeList (m.write a b) (a + 1) bs

/-- The little-endian 16-bit field at an address. -/
def Memory.read16 (m : Memory) (a : Nat) : Nat :=
  leValue (m.readList a 2)

/-- The state with bytes written into exchange memory from an address upward. -/
def State.store (s : State) (a : Nat) (bs : List Byte) : State :=
  { s with mem := s.mem.writeList a bs }

/-! ### Codes (Table 12-14, Table 2-4) -/

def ServiceState.code : ServiceState → Nat
  | .noService => 0
  | .checking => 1
  | .inService => 2
  | .terminated => 3

def PosKind.code : PosKind → Nat
  | .nowhere => 0
  | .atStop => 1
  | .inSection => 2

def CellState.code : CellState → Byte
  | .empty => 0#8
  | .ready => 1#8
  | .taken => 2#8
  | .done => 3#8

/-- The state a state byte holds (R171). No state byte is above 3, see `State.cellBytesLegal`. -/
def CellState.ofByte (b : Byte) : CellState :=
  if b = 0#8 then .empty else if b = 1#8 then .ready else if b = 2#8 then .taken else .done

/-- The known kind a kind byte names (Table 10-2). -/
def RequestKind.ofByte (b : Byte) : Option RequestKind :=
  if b = 1#8 then some .inspect
  else if b = 2#8 then some .journey
  else if b = 3#8 then some .clockSet
  else if b = 4#8 then some .serviceOpen
  else if b = 5#8 then some .serviceClose
  else if b = 6#8 then some .denyBatch
  else if b = 7#8 then some .denyProbe
  else none

/-- The intake queue of a kind (Table 10-2). -/
def RequestKind.queue : RequestKind → QueueId
  | .inspect => .inspection
  | .journey | .clockSet => .journey
  | .serviceOpen | .serviceClose | .denyBatch | .denyProbe => .table

def Verdict.code : Verdict → Byte
  | .valid => 0x01#8
  | .validGrace => 0x02#8
  | .repeat => 0x03#8
  | .shortfall => 0x10#8
  | .noCover => 0x11#8
  | .expired => 0x12#8
  | .notYetValid => 0x13#8
  | .exhausted => 0x14#8
  | .revoked => 0x20#8
  | .passback => 0x21#8
  | .unreadable => 0x30#8
  | .notAccepted => 0x31#8
  | .noService => 0x40#8
  | .badRequest => 0x41#8
  | .aborted => 0x42#8

namespace Outcome

/-! The outcome codes of the requests other than INSPECT (Table 12-14). -/

abbrev done : Byte := 0x01#8
abbrev badRequest : Byte := 0x41#8
abbrev aborted : Byte := 0x42#8
abbrev refusedState : Byte := 0x43#8
abbrev checkFailed : Byte := 0x44#8
abbrev tableFull : Byte := 0x45#8
abbrev tableInvalid : Byte := 0x46#8
abbrev stepTooLarge : Byte := 0x47#8
abbrev journeyEnded : Byte := 0x48#8

end Outcome

/-! ### Service state -/

/-- A service is open: IN_SERVICE or TERMINATED. -/
def ServiceState.isOpen : ServiceState → Bool
  | .inService | .terminated => true
  | .noService | .checking => false

/-! ### Cells (R171, Table 12-2) -/

/-- First address of a cell. -/
def cellBase (n : Fin 32) : Nat :=
  Config.cellSize * n.val

/-- The state of a cell, held by its state byte (R171). -/
def State.cellState (s : State) (n : Fin 32) : CellState :=
  CellState.ofByte (s.mem.read (cellBase n))

/-- Byte `i` of a cell. -/
def State.cellByte (s : State) (n : Fin 32) (i : Nat) : Byte :=
  s.mem.read (cellBase n + i)

/-- The 32 bytes of a cell's body. -/
def State.cellBody (s : State) (n : Fin 32) : List Byte :=
  s.mem.readList (cellBase n + Config.bodyOffset) Config.bodySize

/-- The arrival kind of a cell, as the kind it names (R171). -/
def State.kindOf (s : State) (n : Fin 32) : Option RequestKind :=
  RequestKind.ofByte s.intake.arrivalKind[n]

/-- How many of a cell's states are `c`: 1 or 0. -/
def CellState.is (c x : CellState) : Nat :=
  if x = c then 1 else 0

/-- The notice unit's counts and the FIRST latch after a cell of arrival kind `kind` passes from one state to
another (R181, R191). A cell becomes DONE at a posting or at intake's own answer, whose kind is not INSPECT. -/
def NoticeUnit.cellChanged (u : NoticeUnit) (n : Fin 32) (kind : Option RequestKind) (old new : CellState) :
    NoticeUnit :=
  { u with
    readyCount := u.readyCount - CellState.is .ready old + CellState.is .ready new
    doneCount := u.doneCount - CellState.is .done old + CellState.is .done new
    inspectDone := if kind = some .inspect then u.inspectDone - CellState.is .done old + CellState.is .done new
                   else u.inspectDone
    otherDone := if kind = some .inspect then u.otherDone
                 else u.otherDone - CellState.is .done old + CellState.is .done new
    latch := if u.mode = .first ∧ kind = some .inspect ∧ new = .done ∧ u.latch = none then some n else u.latch }

/-- Intake changes the state of a cell and hands the change to the notice unit (R171, R181). -/
def State.setCellState (s : State) (n : Fin 32) (new : CellState) : State :=
  { s with
    mem := s.mem.write (cellBase n) new.code
    notice := s.notice.cellChanged n (s.kindOf n) (s.cellState n) new }

/-! ### The intake queues (R176) -/

/-- One intake queue. -/
def Intake.queue (q : Intake) : QueueId → List (Fin 32)
  | .inspection => q.inspection
  | .journey => q.journey
  | .table => q.table

/-- The intake with one queue replaced. -/
def Intake.setQueue (q : Intake) (id : QueueId) (l : List (Fin 32)) : Intake :=
  match id with
  | .inspection => { q with inspection := l }
  | .journey => { q with journey := l }
  | .table => { q with table := l }

/-- A server takes the head of its queue: the index leaves the queue and the cell becomes TAKEN (R179). The caller
gives the head. -/
def State.take (s : State) (q : QueueId) (n : Fin 32) : State :=
  ({ s with intake := s.intake.setQueue q (s.intake.queue q).tail }).setCellState n .taken

/-- Intake posts an answer: the answer bytes, 0 in each that carries no field, the body where one is given, and
DONE (R180). -/
def State.post (s : State) (n : Fin 32) (answer : List Byte) (body : Option (List Byte) := none) : State :=
  let s := s.store (cellBase n + Config.answerOffset) (padTo Config.answerSize answer)
  let s := match body with
    | some bs => s.store (cellBase n + Config.bodyOffset) (bs.take Config.bodySize)
    | none => s
  s.setCellState n .done

end Sys2Proof.Machine
end

