-- ==== Sys2Proof/Machine/Flags.lean ====
section
/-! DEFINITION. The notice unit: the event flags, the four causes, NOTICE, NOTE_N and ENG_STATUS (chapter 11). -/

namespace Sys2Proof.Machine

/-! ### Event flags (Table 11-1) -/

/-- The nine event flags. -/
inductive EventFlag where
  | stopReached
  | boundary
  | terminus
  | dayChange
  | cellMisuse
  | guardHit
  | denyFull
  | clockLost
  | firstFault
deriving DecidableEq, Repr

/-- The flag number. -/
def EventFlag.number : EventFlag → Nat
  | .stopReached => 0
  | .boundary => 1
  | .terminus => 2
  | .dayChange => 3
  | .cellMisuse => 4
  | .guardHit => 5
  | .denyFull => 6
  | .clockLost => 7
  | .firstFault => 8

/-- The flag's bit. -/
def EventFlag.bit (f : EventFlag) : BitVec 9 :=
  1#9 <<< f.number

/-- The bits of the journey-class flags, numbers 0 to 3. -/
abbrev journeyClass : BitVec 9 := 0x00F#9

/-- The bits of the fault-class flags, numbers 4 to 8. -/
abbrev faultClass : BitVec 9 := 0x1F0#9

/-- The flag is set. -/
def State.flag (s : State) (f : EventFlag) : Bool :=
  s.notice.flags.getLsbD f.number

/-- A block hands a flag to the notice unit, which sets it whatever its enable bit holds (R187). -/
def State.raise (s : State) (f : EventFlag) : State :=
  { s with notice := { s.notice with flags := s.notice.flags ||| f.bit } }

/-- The notice unit clears a flag. -/
def State.clearFlag (s : State) (f : EventFlag) : State :=
  { s with notice := { s.notice with flags := s.notice.flags &&& ~~~ f.bit } }

/-! ### Causes (Table 11-2) -/

/-- The lowest cell of arrival kind INSPECT that is DONE. -/
def State.lowestInspectDone (s : State) : Option (Fin 32) :=
  (List.finRange 32).find? fun n => decide (s.kindOf n = some .inspect ∧ s.cellState n = .done)

/-- The index of the ANSWER cause while it is pending (R190, R191). -/
def State.answerCause (s : State) : Option Nat :=
  match s.notice.mode with
  | .off => none
  | .first => s.notice.latch.map Fin.val
  | .each => if s.notice.inspectDone = 0 then none else s.lowestInspectDone.map Fin.val

/-- The watermark, 1 to 8 (R192). -/
def NoticeUnit.mark (u : NoticeUnit) : Nat :=
  u.watermark.toNat + 1

/-- The index of the MAINT cause while it is pending (R192). -/
def State.maintCause (s : State) : Option Nat :=
  if s.notice.mark ≤ s.notice.otherDone then some s.notice.otherDone else none

/-- The index of the JOURNEY cause while it is pending (R193). -/
def State.journeyCause (s : State) : Option Nat :=
  if s.notice.flags &&& s.notice.enable &&& journeyClass = 0#9 then none
  else some (if s.journey.kind = .nowhere then 0 else s.journey.stop)

/-- The index of the FAULT cause while it is pending: the lowest number among the set, enabled fault-class flags
(R193). -/
def State.faultCause (s : State) : Option Nat :=
  [4, 5, 6, 7, 8].find? fun i => s.notice.flags.getLsbD i && s.notice.enable.getLsbD i

/-- The causes by rank, each with its code and its index while pending (R194). -/
def State.rankedCauses (s : State) : List (Nat × Option Nat) :=
  if s.notice.journeyFirst then
    [(4, s.faultCause), (3, s.journeyCause), (1, s.answerCause), (2, s.maintCause)]
  else
    [(4, s.faultCause), (1, s.answerCause), (3, s.journeyCause), (2, s.maintCause)]

/-- The code and index NOTICE shows: the highest-ranked pending cause, or 0 and 0 (R194). -/
def State.topCause (s : State) : Nat × Nat :=
  (s.rankedCauses.findSome? fun c => c.2.map fun i => (c.1, i)).getD (0, 0)

/-- A cause is pending. -/
def State.anyPending (s : State) : Bool :=
  s.faultCause.isSome || s.answerCause.isSome || s.journeyCause.isSome || s.maintCause.isSome

/-- NOTE_N follows the causes: low while any is pending (R194). Run at the end of every event. -/
def State.driveNote (s : State) : State :=
  { s with notice := { s.notice with noteN := !s.anyPending } }

/-! ### Register reads (Table 12-15) -/

/-- ENG_STATUS (R195). -/
def State.engStatus (s : State) : Word :=
  BitVec.ofNat 16 (s.table.service.code + 4 * s.clock.valid.toNat + 8 * s.deny.sweep.isSome.toNat +
    16 * s.notice.readyCount + 1024 * s.notice.doneCount)

/-- The code of ANSWER_MODE (R196). -/
def AnswerMode.code : AnswerMode → Nat
  | .off => 0
  | .first => 1
  | .each => 2

/-- ENG_CONTROL, with ENGINE_RESET and REARM reading 0 (R196). -/
def State.engControl (s : State) : Word :=
  BitVec.ofNat 16 (2 * s.notice.mode.code + 16 * s.notice.watermark.toNat + 128 * s.notice.journeyFirst.toNat)

/-- NOTICE (R194). -/
def State.noticeWord (s : State) : Word :=
  BitVec.ofNat 16 (s.topCause.1 + 256 * s.topCause.2)

/-- EVENT_FLAGS. -/
def State.eventFlags (s : State) : Word :=
  s.notice.flags.setWidth 16

/-- EVENT_ENABLE. -/
def State.eventEnable (s : State) : Word :=
  s.notice.enable.setWidth 16

/-! ### Register writes -/

/-- The bits of a write, in the lanes selected, that carry a flag (R188, R189). -/
def laneFlags (data : Word) (lanes : Lanes) : BitVec 9 :=
  (data &&& laneMask lanes).setWidth 9

/-- A host write to EVENT_FLAGS clears each flag written 1; clearing FIRST_FAULT, set or not, re-arms the capture
(R188, R137). The mirror's capture fields are the caller's. -/
def State.writeEventFlags (s : State) (data : Word) (lanes : Lanes) : State :=
  { s with
    notice := { s.notice with flags := s.notice.flags &&& ~~~ laneFlags data lanes }
    journey := if (laneFlags data lanes).getLsbD 8 then { s.journey with capture := none } else s.journey }

/-- A host write to EVENT_ENABLE stores the enable bits of the selected lanes (R189). -/
def State.writeEventEnable (s : State) (data : Word) (lanes : Lanes) : State :=
  { s with notice := { s.notice with
      enable := (s.notice.enable &&& ~~~ (laneMask lanes).setWidth 9) ||| laneFlags data lanes } }

/-- The mode a value of the ANSWER_MODE field names; 3 is none (R196). -/
def AnswerMode.ofField (v : Nat) : Option AnswerMode :=
  if v = 0 then some .off else if v = 1 then some .first else if v = 2 then some .each else none

/-- The fields of a write to ENG_CONTROL other than ENGINE_RESET: a value 3 leaves the mode, a change of mode or
REARM 1 re-arms the FIRST latch (R196, R191). -/
def NoticeUnit.control (u : NoticeUnit) (data : Word) : NoticeUnit :=
  let mode := (AnswerMode.ofField (data.extractLsb' 1 2).toNat).getD u.mode
  { u with
    mode := mode
    watermark := data.extractLsb' 4 3
    journeyFirst := data.getLsbD 7
    latch := if mode ≠ u.mode ∨ data.getLsbD 3 = true then none else u.latch }

end Sys2Proof.Machine
end

