-- ==== Sys2Proof/Machine/Operands.lean ====
section
/-! DEFINITION. What the commands read: the kind parameters and bodies of the cells, the ticket image, the service
tables and the records of a deny batch, each field at its place in chapter 12. -/

namespace Sys2Proof.Machine

/-! ### Request cells (Tables 12-3 to 12-5, 12-8, 12-10) -/

/-- The kind parameters of an INSPECT cell (Table 12-3). -/
structure InspectParams where
  presentation : Nat
  boarding : Nat
  alighting : Nat
  override : Nat
deriving DecidableEq, Repr

/-- The kind parameters of a cell. -/
def State.inspectParams (s : State) (n : Fin 32) : InspectParams where
  presentation := (s.cellByte n 4).toNat
  boarding := (s.cellByte n 5).toNat
  alighting := (s.cellByte n 6).toNat
  override := (s.cellByte n 7).toNat

/-- The event of a JOURNEY body (Table 12-4). -/
def State.journeyEvent (s : State) (n : Fin 32) : Byte :=
  s.cellByte n 8

/-- The stop index of a JOURNEY body, none when it is FFh (R122, Table 12-4). -/
def State.journeyStop (s : State) (n : Fin 32) : Option Nat :=
  let b := (s.cellByte n 9).toNat
  if b = Config.absent then none else some b

/-- The position kind of a JOURNEY body, none when it is neither AT_STOP nor IN_SECTION (R129). -/
def State.journeyKind (s : State) (n : Fin 32) : Option PosKind :=
  if s.cellByte n 10 = 1#8 then some .atStop
  else if s.cellByte n 10 = 2#8 then some .inSection
  else none

/-- The 16-bit little-endian field at byte `i` of a cell. -/
def State.cellWord (s : State) (n : Fin 32) (i : Nat) : Nat :=
  s.mem.read16 (cellBase n + i)

/-- The tag's two bytes (Table 12-2). -/
def State.cellTag (s : State) (n : Fin 32) : Byte × Byte :=
  (s.cellByte n 2, s.cellByte n 3)

/-- The media ID of a DENY-PROBE body (Table 12-10). -/
def State.probeMedia (s : State) (n : Fin 32) : Nat :=
  beValue (s.mem.readList (cellBase n + Config.bodyOffset) 7)

/-! ### The ticket image (Table 12-1) -/

/-- Byte `i` of an image. -/
def imageByte (img : List Byte) (i : Nat) : Byte :=
  img.getD i 0#8

/-- The big-endian field of `n` bytes at byte `i` of an image (R1). -/
def imageField (img : List Byte) (i n : Nat) : Nat :=
  beValue ((img.drop i).take n)

/-- The fields of a ticket image (Table 12-1). -/
structure Ticket where
  layout : Nat
  issuer : Nat
  product : Nat
  fareClass : Nat
  mediaId : Nat
  zoneMask : Word
  startDay : Nat
  startMinute : Nat
  durationUnit : Nat
  durationAmount : Nat
  ridesRemaining : Nat
  checkinStop : Nat
  markTrain : Nat
  markDay : Nat
  markMinute : Nat
  markSequence : Nat
deriving DecidableEq, Repr

/-- The fields of an image, each read most significant byte first (R1). -/
def Ticket.ofImage (img : List Byte) : Ticket where
  layout := imageField img 0 1
  issuer := imageField img 1 1
  product := imageField img 2 1
  fareClass := imageField img 3 1
  mediaId := imageField img 4 7
  zoneMask := BitVec.ofNat 16 (imageField img 11 2)
  startDay := imageField img 13 2
  startMinute := imageField img 15 2
  durationUnit := imageField img 17 1
  durationAmount := imageField img 18 2
  ridesRemaining := imageField img 20 1
  checkinStop := imageField img 21 2
  markTrain := imageField img 23 2
  markDay := imageField img 25 2
  markMinute := imageField img 27 2
  markSequence := imageField img 29 1

/-! Product codes (R5). -/
abbrev productRides : Nat := 1
abbrev productPeriod : Nat := 2
abbrev productCheckin : Nat := 3

/-- No condition of Table 1-1 holds (R3). -/
def Ticket.sane (t : Ticket) : Bool :=
  decide (t.issuer ≤ 63) &&
  decide (t.product = productRides ∨ t.product = productPeriod ∨ t.product = productCheckin) &&
  decide (t.startMinute ≤ 1439) &&
  decide (t.durationUnit = 0 ∨ t.durationUnit = 1) &&
  decide (t.markTrain = 0 ∨ t.markMinute ≤ 1439)

/-! ### The service tables (Tables 8-2, 12-13) -/

/-- The service header (R144). -/
structure Header where
  train : Nat
  direction : Nat
  origin : Nat
  stops : Nat
  dayChange : Nat
  grace : Nat
  rounding : Nat
  penalty : Nat
  cap : Nat
  issuerCount : Nat
deriving DecidableEq, Repr

/-- The service header as it stands in the context region. -/
def Memory.header (m : Memory) : Header where
  train := m.read16 0x1000
  direction := (m.read 0x1002).toNat
  origin := (m.read 0x1003).toNat
  stops := (m.read 0x1004).toNat
  dayChange := m.read16 0x1005
  grace := (m.read 0x1007).toNat
  rounding := (m.read 0x1008).toNat
  penalty := m.read16 0x1009
  cap := m.read16 0x100B
  issuerCount := (m.read 0x100D).toNat

/-- An issuer-table entry (R145). -/
structure IssuerEntry where
  code : Nat
  sliceA : Nat
  sliceB : Nat
  zero : Nat
deriving DecidableEq, Repr

/-- Issuer entry `j`. -/
def Memory.issuer (m : Memory) (j : Nat) : IssuerEntry where
  code := (m.read (Config.issuerBase + 4 * j)).toNat
  sliceA := (m.read (Config.issuerBase + 4 * j + 1)).toNat
  sliceB := (m.read (Config.issuerBase + 4 * j + 2)).toNat
  zero := (m.read (Config.issuerBase + 4 * j + 3)).toNat

/-- share(c) (R145). -/
def Memory.share (m : Memory) (c : Nat) : Nat :=
  (m.read (Config.classBase + c)).toNat

/-- fare(x), x from 1 (R145). -/
def Memory.fare (m : Memory) (x : Nat) : Nat :=
  m.read16 (Config.fareBase + 2 * (x - 1))

/-- A route-table entry (R146). -/
structure RouteEntry where
  code : Nat
  zone : Nat
  flags : Byte
deriving DecidableEq, Repr

/-- Route entry `j`. -/
def Memory.route (m : Memory) (j : Nat) : RouteEntry where
  code := m.read16 (Config.routeBase + 4 * j)
  zone := (m.read (Config.routeBase + 4 * j + 2)).toNat
  flags := m.read (Config.routeBase + 4 * j + 3)

/-- The stop is flagged BOUNDARY (R146). -/
def Memory.isBoundary (m : Memory) (j : Nat) : Bool :=
  (m.route j).flags.getLsbD 0

/-! ### Direction (R49) -/

/-- The direction is UP. -/
def Header.up (h : Header) : Bool :=
  h.direction == 0

/-- The next stop in the direction of travel. -/
def Header.next (h : Header) (k : Nat) : Nat :=
  if h.up then k + 1 else k - 1

/-- The last stop in the direction of travel. -/
def Header.terminus (h : Header) : Nat :=
  if h.up then h.stops - 1 else 0

/-- Stop `j` lies ahead of stop `k`. -/
def Header.ahead (h : Header) (j k : Nat) : Bool :=
  if h.up then decide (k < j) else decide (j < k)

/-- Stop `j` lies behind stop `k`. -/
def Header.behind (h : Header) (j k : Nat) : Bool :=
  h.ahead k j

/-- The stops from `b` to `a` along the direction of travel, both included (R50). -/
def Header.stopsBetween (h : Header) (b a : Nat) : List Nat :=
  if h.up then List.range' b (a + 1 - b) else (List.range' a (b + 1 - a)).reverse

/-! ### Deny batches (Table 12-9) -/

/-- One record of a deny batch. -/
structure BatchRecord where
  op : Nat
  reason : Nat
  expiry : Nat
  mediaId : Nat
deriving DecidableEq, Repr

/-- The count of the batch at an offset. -/
def Memory.batchCount (m : Memory) (offset : Nat) : Nat :=
  m.read16 offset

/-- Record `i` of the batch at an offset. The pad byte is not read. -/
def Memory.batchRecord (m : Memory) (offset i : Nat) : BatchRecord where
  op := (m.read (offset + 2 + 12 * i)).toNat
  reason := (m.read (offset + 3 + 12 * i)).toNat
  expiry := m.read16 (offset + 4 + 12 * i)
  mediaId := beValue (m.readList (offset + 6 + 12 * i) 7)

/-- The bytes of a batch: header, records and check word (R107). -/
def batchLength (count : Nat) : Nat :=
  4 + 12 * count

end Sys2Proof.Machine
end

