-- ==== Sys2Proof/Machine/Mirror.lean ====
section
/-! DEFINITION. The journey mirror as the journey unit writes it, the mirror hold, and what a host read returns
anywhere on the port (R139 to R142, R168). -/

namespace Sys2Proof.Machine

/-- The capture's 16 bytes, 0818h to 0827h: 0 in every field while ARMED (R135, Table 12-12). -/
def captureBytes : Option CaptureRecord → List Byte
  | none => List.replicate 16 0#8
  | some r =>
    [1#8, byteOf r.kind.code] ++ le16 r.round ++ [byteOf r.stop, byteOf r.cell.val, r.tag.1, r.tag.2] ++
      le16 r.day ++ le16 r.minute ++ [r.verdict.code, 0#8] ++ le16 r.amount

/-- The position stop as the mirror and the JOURNEY cause show it: 0 with no position. -/
def Journey.shownStop (j : Journey) : Nat :=
  if j.kind = .nowhere then 0 else j.stop

/-- The train number, direction and N of the open service, 0 with no service (Table 7-2). -/
def State.mirrorService (s : State) : List Byte :=
  if s.table.service.isOpen then
    [s.mem.read 0x1000, s.mem.read 0x1001, s.mem.read 0x1002, s.mem.read 0x1004]
  else [0#8, 0#8, 0#8, 0#8]

/-- The 64 bytes the mirror holds for the state of the other blocks (Table 7-2, Table 12-12), 0 in each that
carries no field (R198). -/
def State.mirrorImage (s : State) : List Byte :=
  [byteOf s.table.service.code, byteOf s.journey.kind.code] ++ s.mirrorService ++
    [byteOf s.journey.shownStop, 0#8] ++ le16 s.journey.round ++
    le16 s.clock.day ++ le16 s.clock.minute ++ [byteOf s.clock.second, flagByte s.clock.valid] ++
    le16 s.journey.serviceDay ++ [byteOf s.engine.counter, 0#8] ++
    le16 s.rounds.length ++ le16 s.deny.list.length ++ captureBytes s.journey.capture ++ List.replicate 24 0#8

/-- The journey unit rewrites the mirror, all fields together (R139). -/
def State.rewriteMirror (s : State) : State :=
  s.store Config.mirrorBase s.mirrorImage

/-- The word at an even address of exchange memory. -/
def State.liveWord (s : State) (a : Nat) : Word :=
  wordOfBytes (s.mem.read a) (s.mem.read (a + 1))

/-- The even address an access addresses, formed from A[15:1] (R168). -/
def evenAddress (addr : Word) : Nat :=
  addr.toNat / 2 * 2

/-- What a host read of the word at an address returns (R168, R141): mirror words 1 to 31 from the hold copy while
one stands, the registers as worked out at the read, 0 where there is no storage. -/
def State.hostRead (s : State) (addr : Word) : Word :=
  let a := evenAddress addr
  if Config.mirrorBase + 2 ≤ a ∧ a < Config.scratchBase then
    match s.journey.hold with
    | some copy =>
      wordOfBytes (copy.getD (a - (Config.mirrorBase + 2)) 0#8) (copy.getD (a + 1 - (Config.mirrorBase + 2)) 0#8)
    | none => s.liveWord a
  else if a < Config.memoryEnd then s.liveWord a
  else if a = Config.engStatusAddr then s.engStatus
  else if a = Config.engControlAddr then s.engControl
  else if a = Config.noticeAddr then s.noticeWord
  else if a = Config.eventFlagsAddr then s.eventFlags
  else if a = Config.eventEnableAddr then s.eventEnable
  else 0#16

/-- A host read of mirror word 0: the live word on D[15:0], and, where a byte lane makes it a read of word 0, the
hold copy taken of words 1 to 31 (R141, R168). -/
def State.readMirrorWord0 (s : State) (lanes : Lanes) : State :=
  { s with
    readData := s.hostRead 0x0800#16
    journey := if lanes.low || lanes.high then
        { s.journey with hold := some (s.mem.readList (Config.mirrorBase + 2) (Config.mirrorSize - 2)) }
      else s.journey }

end Sys2Proof.Machine
end

