-- ==== Sys2Proof/Machine/Boundaries.lean ====
section
/-! DEFINITION. Boundaries, the re-arm of the capture, and the journey unit's part in an open and a close (R131,
R133, R137). -/

namespace Sys2Proof.Machine

/-- The engine re-arms the capture and has FIRST_FAULT cleared (R131, R133, R137). -/
def State.rearmCapture (s : State) : State :=
  ({ s with journey := { s.journey with capture := none } }).clearFlag .firstFault

/-- One boundary (R131): the round rises, the round list is emptied, the capture is re-armed, BOUNDARY is set. -/
def State.boundary (s : State) : State :=
  (({ s with
      journey := { s.journey with round := s.journey.round + 1 }
      rounds := [] }).rearmCapture).raise .boundary

/-- As many boundaries one after the other (R131). -/
def State.boundaries : Nat → State → State
  | 0, s => s
  | k + 1, s => State.boundaries k s.boundary

/-- How many of the stops are flagged BOUNDARY. -/
def Memory.boundaryCount (m : Memory) (stops : List Nat) : Nat :=
  stops.countP fun j => m.isBoundary j

/-- The service state becomes TERMINATED and TERMINUS is handed over (R130). -/
def State.terminate (s : State) : State :=
  ({ s with table := { s.table with service := .terminated } }).raise .terminus

/-- The journey unit at a SERVICE-OPEN completion: the train at the origin, round 1, the service day fixed, the
capture re-armed (R133). The round list is emptied with it (R153). -/
def State.placeAtOrigin (s : State) (origin serviceDay : Nat) : State :=
  ({ s with
      journey := { s.journey with kind := .atStop, stop := origin, round := 1, serviceDay := serviceDay }
      rounds := [] }).rearmCapture

/-- The teardown at a SERVICE-CLOSE completion: no position, round and service day 0, the capture re-armed, the
round list emptied (R133, R157). -/
def State.endJourney (s : State) : State :=
  ({ s with
      journey := { s.journey with kind := .nowhere, stop := 0, round := 0, serviceDay := 0 }
      rounds := [] }).rearmCapture

end Sys2Proof.Machine
end

