-- ==== Sys2Proof/Machine/Deny.lean ====
section
/-! DEFINITION. The deny list, its lookups and edits, the sweep, and the deny list unit's order of service
(chapter 6). -/

namespace Sys2Proof.Machine

/-! ### The list (R101, R103, R111, R112) -/

/-- The entry holding a media ID. -/
def denyEntry (l : List DenyEntry) (id : Nat) : Option DenyEntry :=
  l.find? fun e => e.mediaId == id

/-- The entry denies its medium on a day (R103). -/
def DenyEntry.denies (e : DenyEntry) (day : Nat) : Bool :=
  decide (e.expiry = Config.noneWord ∨ day ≤ e.expiry)

/-- The entry that a lookup hits (R103). -/
def denyHit (l : List DenyEntry) (id day : Nat) : Option DenyEntry :=
  (denyEntry l id).filter fun e => e.denies day

/-- The list with an entry inserted in media ID order, or in place of the one holding its media ID (R111). -/
def denyInsert : List DenyEntry → DenyEntry → List DenyEntry
  | [], e => [e]
  | x :: xs, e =>
    if e.mediaId < x.mediaId then e :: x :: xs
    else if e.mediaId = x.mediaId then e :: xs
    else x :: denyInsert xs e

/-- The list without the entry holding a media ID (R112). -/
def denyRemove (l : List DenyEntry) (id : Nat) : List DenyEntry :=
  l.filter fun e => e.mediaId != id

/-- An ADD of a media ID finds no entry and a full list (R111, R113). -/
def denyFullFor (l : List DenyEntry) (id : Nat) : Bool :=
  (denyEntry l id).isNone && decide (Config.denyListSize ≤ l.length)

/-! ### The sweep (R118 to R120) -/

/-- The sweep removes the entry (R119). -/
def DenyEntry.sweptAt (e : DenyEntry) (day : Nat) : Bool :=
  decide (e.expiry ≠ Config.noneWord ∧ e.expiry < day)

/-- A sweep begins, or restarts, against a day at the lowest entry. On an empty list it ends at once (R118, R120). -/
def DenyUnit.beginSweep (u : DenyUnit) (day : Nat) : DenyUnit :=
  { u with sweep := u.list.head?.map fun e => { day := day, position := e.mediaId } }

/-- One sweep step: the entry at the sweep position is removed when expired, and the position moves to the next
entry, the sweep ending when there is none (R119). -/
def DenyUnit.sweepOnce (u : DenyUnit) : DenyUnit :=
  match u.sweep with
  | none => u
  | some w =>
    match u.list.find? fun e => decide (w.position ≤ e.mediaId) with
    | none => { u with sweep := none }
    | some e =>
      { u with
        list := if e.sweptAt w.day then denyRemove u.list e.mediaId else u.list
        sweep := (u.list.find? fun x => decide (e.mediaId < x.mediaId)).map fun x =>
          { day := w.day, position := x.mediaId } }

/-! ### Order of service (R105, R106) -/

/-- The lookup that waits, and where both requesters' wait one of the two (R104). -/
def DenyUnit.waitingLookup (u : DenyUnit) : Option DenyOp :=
  match u.engineLookup, u.probeLookup with
  | some _, some _ => some (.lookup none)
  | some _, none => some (.lookup (some .verdictEngine))
  | none, some _ => some (.lookup (some .tableUnit))
  | none, none => none

/-- What a free unit serves next: a waiting lookup, then a sweep step, then the waiting edit (R105). -/
def DenyUnit.next (u : DenyUnit) : Option DenyOp :=
  u.waitingLookup.or (if u.sweep.isSome then some .sweepStep else if u.edit.isSome then some .edit else none)

/-- The unit, when free, chooses its next operation and begins it (R105). -/
def DenyUnit.choose (u : DenyUnit) : DenyUnit :=
  { u with serving := u.serving.or u.next }

/-- What a free unit begins at the end of an event: its next operation, unless that is a sweep step, which the unit
begins at a moment of its own, so that other events fall between two steps (R119, R120; DESIGN CHOICE, log entry 9). -/
def DenyUnit.advance (u : DenyUnit) : DenyUnit :=
  if u.next = some .sweepStep then u else u.choose

/-- What a free unit begins when an edit has completed: a lookup that waits. The next edit waits for the next event
(R105, R106, log entry 9). -/
def DenyUnit.beginLookup (u : DenyUnit) : DenyUnit :=
  { u with serving := u.serving.or u.waitingLookup }

/-- The unit serves a lookup of the requester, or being free begins it (R105). -/
def DenyUnit.serves (u : DenyUnit) (who : LookupRequester) : Bool :=
  match u.choose.serving with
  | some (.lookup served) => served.all (· == who)
  | some .sweepStep | some .edit | none => false

/-- A DAY_CHANGE reaches the unit: a sweep begins or restarts at once when the unit is free, ahead of an edit that
only waits, and when the operation being served completes otherwise (R106). -/
def DenyUnit.dayChange (u : DenyUnit) (day : Nat) : DenyUnit :=
  if u.serving.isSome then { u with dayWaiting := some day }
  else u.beginSweep day

/-- The operation being served has completed: the unit is free, and a DAY_CHANGE that came meanwhile begins its sweep
(R105, R106). The next operation is chosen at the end of the
event, but a batch's next edit with the next event (R106, log entry 9). -/
def DenyUnit.complete (u : DenyUnit) : DenyUnit :=
  let u := { u with serving := none }
  match u.dayWaiting with
  | some day => { u.beginSweep day with dayWaiting := none }
  | none => u

/-- The verdict engine asks for a lookup, which waits (R104, R105). -/
def State.askEngineLookup (s : State) (media day : Nat) : State :=
  { s with deny := { s.deny with engineLookup := some (media, day) } }

/-- The table unit asks for a DENY-PROBE's lookup, which waits (R104, R116). -/
def State.askProbeLookup (s : State) (media : Nat) : State :=
  { s with deny := { s.deny with probeLookup := some media } }

/-- The table unit hands the unit an edit, which waits (R110). -/
def State.handEdit (s : State) (e : Edit) : State :=
  { s with deny := { s.deny with edit := some e } }

/-- The unit begins its next operation, when free with work waiting (R105). -/
def State.chooseDeny (s : State) : State :=
  { s with deny := s.deny.choose }

/-- The unit goes on at the end of an event. -/
def State.advanceDeny (s : State) : State :=
  { s with deny := s.deny.advance }

/-- The unit begins a waiting lookup when an edit has completed. -/
def State.beginLookup (s : State) : State :=
  { s with deny := s.deny.beginLookup }

/-- The unit's operation has completed. -/
def State.completeDeny (s : State) : State :=
  { s with deny := s.deny.complete }

end Sys2Proof.Machine
end

