-- ==== Sys2Proof/Machine/Check.lean ====
section
/-! DEFINITION. The check unit: the 16-bit division, and the sharing of the unit between its two requesters
(chapter 9). -/

namespace Sys2Proof.Machine

/-! ### The computation (R160) -/

/-- The running remainder after one bit. -/
def checkBit (r : Word) (bit : Bool) : Word :=
  if bit ^^ r.getLsbD 15 then (r <<< 1) ^^^ 0x1021#16 else r <<< 1

/-- The running remainder after one byte, its bits taken most significant first. -/
def checkByte (r : Word) (b : Byte) : Word :=
  [7, 6, 5, 4, 3, 2, 1, 0].foldl (fun r i => checkBit r (b.getLsbD i)) r

/-- The running remainder after a run of bytes. -/
def checkFrom (r : Word) (bs : List Byte) : Word :=
  bs.foldl checkByte r

/-- The preset of every job. -/
abbrev checkPreset : Word := 0xFFFF#16

/-- The result of a job over a run of bytes. -/
def checkOf (bs : List Byte) : Word :=
  checkFrom checkPreset bs

/-- A check word as it is stored, high byte first (R161). -/
def checkWordBytes (w : Word) : List Byte :=
  [highByte w, lowByte w]

/-! ### Order of service (R164) -/

/-- The unit, when idle, chooses its work and begins it: a verdict-engine job first, whichever request came first,
then the next piece of a table-unit job from its saved remainder (the table of R164, R165). -/
def CheckUnit.choose (u : CheckUnit) : CheckUnit :=
  match u.serving, u.engineJob, u.tableJob with
  | some _, _, _ => u
  | none, some _, _ => { u with serving := some { owner := .verdictEngine, remainder := checkPreset } }
  | none, none, some j => { u with serving := some { owner := .tableUnit, remainder := j.remainder } }
  | none, none, none => u

/-- The verdict engine asks for a job over a run of bytes: its slot is filled, and an idle unit begins it at the end of
the event (R163, R165; `State.event`). -/
def State.askEngineJob (s : State) (run : List Byte) : State :=
  { s with check := { s.check with engineJob := some run } }

/-- The table unit asks for a job over a run in exchange memory: its slot is filled, and an idle unit begins it with the
next event, a verdict-engine job of that event going first (R163, R165; log entry 9, `State.asking`). -/
def State.askTableJob (s : State) (base length : Nat) : State :=
  { s with check := { s.check with
      tableJob := some { base := base, length := length, position := 0, remainder := checkPreset } } }

/-- The unit begins its work, when idle with work waiting (R164). -/
def State.chooseCheck (s : State) : State :=
  { s with check := s.check.choose }

/-- The bytes of the piece at a table-unit job's position: 64, or those that remain (R164). -/
def TableJob.pieceLength (j : TableJob) : Nat :=
  min Config.pieceSize (j.length - j.position)

/-- The piece at the job's position is its last. -/
def TableJob.lastPiece (j : TableJob) : Bool :=
  decide (j.length - j.position ≤ Config.pieceSize)

/-- The remainder at the end of the piece being served. -/
def State.pieceRemainder (s : State) (j : TableJob) (r : Word) : Word :=
  checkFrom r (s.mem.readList (j.base + j.position) j.pieceLength)

/-- The work in service is a verdict-engine job, or the last piece of a table-unit job: its end is the end of the
job (R163, R164). -/
def CheckUnit.jobEndDue (u : CheckUnit) : Bool :=
  match u.serving, u.engineJob, u.tableJob with
  | some { owner := .verdictEngine, .. }, some _, _ => true
  | some { owner := .tableUnit, .. }, _, some j => j.lastPiece
  | _, _, _ => false

/-- The work in service is a piece of a table-unit job that is not its last (R164). -/
def CheckUnit.pieceEndDue (u : CheckUnit) : Bool :=
  match u.serving, u.tableJob with
  | some { owner := .tableUnit, .. }, some j => !j.lastPiece
  | _, _ => false

/-- A piece of a table-unit job that is not its last ends: the position and the remainder are saved with the job,
and the unit chooses its next work (R164). -/
def State.endPiece (s : State) : State :=
  match s.check.serving, s.check.tableJob with
  | some { owner := .tableUnit, remainder := r }, some j =>
    { s with check := ({ s.check with
        serving := none
        tableJob := some { j with position := j.position + Config.pieceSize,
                                  remainder := s.pieceRemainder j r } }).choose }
  | _, _ => s

end Sys2Proof.Machine
end

