-- ==== Sys2Proof/Machine/Clock.lean ====
section
/-! DEFINITION. The service clock: its edges, its cascade, its loss, and absolute time (R65 to R74). The serving of
a CLOCK-SET stands with the other requests of the journey queue. -/

namespace Sys2Proof.Machine

/-- day × 1440 + minute (R74). -/
def absMinute (day minute : Nat) : Nat :=
  day * 1440 + minute

/-- day × 86,400 + minute × 60 + second (R74). -/
def absSecond (day minute second : Nat) : Nat :=
  day * 86400 + minute * 60 + second

/-- The service day, or start service day, that a day and a minute belong to under day-change minute `d` (R75,
R76): the day before, held at 0, when the minute is less than `d`. -/
def serviceDayOf (day minute d : Nat) : Nat :=
  if minute < d then day - 1 else day

/-- DAY_CHANGE is handed to the notice unit and to the deny list unit (R67, R82). -/
def State.dayChanged (s : State) (day : Nat) : State :=
  let s := s.raise .dayChange
  { s with deny := s.deny.dayChange day }

/-- The minute returns from 1439 to 0: the day rises and DAY_CHANGE is raised, or the day holds at 65535 (R67). -/
def State.advanceDay (s : State) : State :=
  if s.clock.day < Config.wordMax then
    ({ s with clock := { s.clock with minute := 0, day := s.clock.day + 1 } }).dayChanged (s.clock.day + 1)
  else { s with clock := { s.clock with minute := 0 } }

/-- The minute advances by one (R66). -/
def State.advanceMinute (s : State) : State :=
  if s.clock.minute < 1439 then { s with clock := { s.clock with minute := s.clock.minute + 1 } }
  else s.advanceDay

/-- The clock advances by one second with the whole cascade, and the mirror's clock fields are rewritten (R66). -/
def State.advanceSecond (s : State) : State :=
  let s := if s.clock.second < 59 then { s with clock := { s.clock with second := s.clock.second + 1 } }
    else ({ s with clock := { s.clock with second := 0 } }).advanceMinute
  s.rewriteMirror

/-- A CLK32 edge drives the timebase: RUNNING, with the loss timer restarted (R68). -/
def Clock.driven (c : Clock) : Clock :=
  { c with timebase := .running, lossTimer := true }

/-- A rising edge of CLK32: one more sub-second, and a second when the count would reach 32,768 (R66, R68). -/
def State.clockEdge (s : State) : State :=
  if s.clock.subSecond + 1 < Config.edgesPerSecond then
    { s with clock := { s.clock.driven with subSecond := s.clock.subSecond + 1 } }
  else ({ s with clock := { s.clock.driven with subSecond := 0 } }).advanceSecond

/-- The next CLK32 edge brings the sub-second count to 32,768. -/
def State.secondDue (s : State) : Bool :=
  decide (Config.edgesPerSecond ≤ s.clock.subSecond + 1)

/-- The loss timer expires in RUNNING: LOST, clock valid cleared, CLOCK_LOST set, the time held (R68). -/
def State.loseClock (s : State) : State :=
  let s := { s with clock := { s.clock with timebase := .lost, valid := false, lossTimer := false } }
  (s.raise .clockLost).rewriteMirror

end Sys2Proof.Machine
end

