-- ==== Sys2Proof/Machine/Fares.lean ====
section
/-! DEFINITION. The arithmetic of an inspection: zones, T and C, the fare and the amount, the validity window
(R45 to R62, R76 to R80). -/

namespace Sys2Proof.Machine

/-! ### Zones (R47, R51, R53) -/

/-- The distinct zones of a list of stops, from the route table (R51). -/
def Memory.zonesOf (m : Memory) (stops : List Nat) : List Nat :=
  (stops.map fun j => (m.route j).zone).dedup

/-- The ride zone set of the ride from `b` to `a` (R51). -/
def Memory.rideZones (m : Memory) (b a : Nat) : List Nat :=
  m.zonesOf (m.header.stopsBetween b a)

/-- The global zone that local code `k` names through slices A and B; none where the slice is FFh (R47). -/
def zoneOfCode (a b k : Nat) : Option Nat :=
  let slice := if k < 8 then a else b
  if slice = Config.absent then none else some (8 * slice + k % 8)

/-- The covered set of a zone mask (R47, R48). -/
def coveredZones (mask : Word) (a b : Nat) : List Nat :=
  ((List.range 16).filterMap fun k => if mask.getLsbD k then zoneOfCode a b k else none).dedup

/-- C: the members of the ride zone set that are covered (R53). -/
def countCovered (ride covered : List Nat) : Nat :=
  (ride.filter fun z => covered.contains z).length

/-! ### Table lookups -/

/-- The issuer entry among the first issuer-count entries whose code is the image's (R46). -/
def Memory.findIssuer (m : Memory) (code : Nat) : Option IssuerEntry :=
  ((List.range m.header.issuerCount).map m.issuer).find? fun e => e.code == code

/-- The index of a stop code among the first N route entries (R11). -/
def Memory.findStop (m : Memory) (code : Nat) : Option Nat :=
  (List.range m.header.stops).find? fun j => (m.route j).code == code

/-! ### The amount (R55 to R62) -/

/-- fare*, flat beyond sixteen zones (R55). -/
def Memory.fareStar (m : Memory) (x : Nat) : Nat :=
  if x = 0 then 0 else if x ≤ 16 then m.fare x else m.fare 16

/-- The base at the class share, rounded to the nearest multiple of `r`, halves up (R59). -/
def discounted (base share r : Nat) : Nat :=
  let raw := base * share
  let unit := 100 * r
  let q := raw / unit
  let rem := raw - q * unit
  if 2 * rem < unit then q * r else (q + 1) * r

/-- The verdict adds the penalty and takes the whole fare as its base (Table 2-3, R56). -/
def Verdict.penal : Verdict → Bool
  | .noCover | .expired | .notYetValid | .exhausted | .revoked | .passback | .unreadable | .notAccepted => true
  | .valid | .validGrace | .repeat | .shortfall | .noService | .badRequest | .aborted => false

/-- The amount of a verdict from T, C, the class used and the amount a REPEAT finds stored (R29, R56 to R63). -/
def Memory.amount (m : Memory) (v : Verdict) (t c cls stored : Nat) : Nat :=
  let h := m.header
  match v with
  | .valid | .validGrace | .noService | .badRequest | .aborted => 0
  | .repeat => stored
  | .shortfall => min (discounted (m.fareStar t - m.fareStar c) (m.share cls) h.rounding) h.cap
  | .noCover | .expired | .notYetValid | .exhausted | .revoked | .passback | .unreadable | .notAccepted =>
    min (discounted (m.fareStar t) (m.share cls) h.rounding + h.penalty) h.cap

/-! ### The validity window (R76 to R80) -/

/-- The outcome of the time stage (R25). -/
inductive TimeOutcome where
  | unchecked
  | notYetValid
  | expired (detail : Byte)
  | pass (grace : Bool)
deriving DecidableEq, Repr

/-- The end of the window of a RIDES or PERIOD credential, and of a CHECKIN tap (R78, R80). -/
def Ticket.windowEnd (t : Ticket) (d : Nat) : Nat :=
  if t.product ≠ productCheckin ∧ t.durationUnit = 1 then
    absMinute (serviceDayOf t.startDay t.startMinute d + t.durationAmount) d
  else absMinute t.startDay t.startMinute + t.durationAmount

/-- The classification of now against the window (R79). -/
def classifyWindow (now start stop grace : Nat) : TimeOutcome :=
  if now < start then .notYetValid
  else if now < stop then .pass false
  else if now < stop + grace then .pass true
  else .expired 0x01#8

/-- Stage 6 (R77, R79, R80): passed unchecked without a valid clock, a CHECKIN tap from before the service day
refused, the window classified otherwise. -/
def timeStage (h : Header) (snap : Snapshot) (t : Ticket) : TimeOutcome :=
  if !snap.clockValid then .unchecked
  else if t.product = productCheckin ∧
      absMinute t.startDay t.startMinute < absMinute snap.serviceDay h.dayChange then .expired 0x02#8
  else classifyWindow (absMinute snap.day snap.minute) (absMinute t.startDay t.startMinute)
    (t.windowEnd h.dayChange) h.grace

end Sys2Proof.Machine
end

