-- ==== Sys2Proof/Machine/Rounds.lean ====
section
/-! DEFINITION. The round list: lookup, presentation count, insertion and eviction (R83 to R89). -/

namespace Sys2Proof.Machine

/-- The entry holding a media ID (R85). -/
def roundEntry (l : List RoundEntry) (id : Nat) : Option RoundEntry :=
  l.find? fun e => e.mediaId == id

/-- A presented count risen by 1, held at 255 (R86). -/
def raisedCount (n : Nat) : Nat :=
  if n < 255 then n + 1 else 255

/-- The list with the presented count of a medium's entry raised (R86). -/
def raisePresented (l : List RoundEntry) (id : Nat) : List RoundEntry :=
  l.map fun e => if e.mediaId = id then { e with presented := raisedCount e.presented } else e

/-- The list after an insertion of an absent medium: the oldest entry leaves a full list, the new one takes the
newest end (R87, R89). -/
def roundAppend (l : List RoundEntry) (e : RoundEntry) : List RoundEntry :=
  (if Config.roundListSize ≤ l.length then l.tail else l) ++ [e]

/-- An insertion and the presented count the answer carries: a medium that has an entry already gains no second one
and its count is raised (R88), another enters with count 1 (R87). -/
def roundInsert (l : List RoundEntry) (e : RoundEntry) : List RoundEntry × Nat :=
  match roundEntry l e.mediaId with
  | some old => (raisePresented l e.mediaId, raisedCount old.presented)
  | none => (roundAppend l { e with presented := 1 }, 1)

end Sys2Proof.Machine
end

