-- ==== Sys2Proof/Machine/Verdict.lean ====
section
/-! DEFINITION. The verdict engine: the take of an INSPECT cell, the judging stages, completion (chapter 2, 5). -/

namespace Sys2Proof.Machine

/-! ### Verdict classes (Table 2-4) -/

/-- The verdict is of the fault class (R34). -/
def Verdict.faultClass : Verdict → Bool
  | .shortfall | .noCover | .expired | .notYetValid | .exhausted | .revoked | .passback | .unreadable
  | .notAccepted => true
  | .valid | .validGrace | .repeat | .noService | .badRequest | .aborted => false

/-- The verdict composes a new mark (R30). -/
def Verdict.marks : Verdict → Bool
  | .valid | .validGrace | .shortfall => true
  | .repeat | .noCover | .expired | .notYetValid | .exhausted | .revoked | .passback | .unreadable | .notAccepted
  | .noService | .badRequest | .aborted => false

/-- The verdict is inserted in the round list (R31). -/
def Verdict.inserted : Verdict → Bool
  | .revoked | .notYetValid | .expired | .exhausted | .noCover | .shortfall | .valid | .validGrace => true
  | .repeat | .passback | .unreadable | .notAccepted | .noService | .badRequest | .aborted => false

/-- The verdict is of the refused class (R34). -/
def Verdict.refused : Verdict → Bool
  | .noService | .badRequest | .aborted => true
  | .valid | .validGrace | .repeat | .shortfall | .noCover | .expired | .notYetValid | .exhausted | .revoked
  | .passback | .unreadable | .notAccepted => false

/-! ### The take (R15 to R19) -/

/-- The journey snapshot as it stands (R16). -/
def State.snapshot (s : State) : Snapshot where
  service := s.table.service
  round := s.journey.round
  stop := s.journey.stop
  kind := s.journey.kind
  day := s.clock.day
  minute := s.clock.minute
  serviceDay := s.journey.serviceDay
  clockValid := s.clock.valid

/-- A SERVICE-CLOSE is waiting for the verdict engine. -/
def TableUnit.closeWaits (t : TableUnit) : Bool :=
  match t.held with
  | some (_, .serviceClose) => true
  | _ => false

/-- The verdict engine may take a cell, its queue apart (R15). -/
def State.mayInspect (s : State) : Bool :=
  s.engine.flight.isNone && decide (s.table.service ≠ .checking) && !s.table.closeWaits

/-- A flight that has formed nothing yet. -/
def Flight.fresh (n : Fin 32) (snap : Snapshot) : Flight where
  cell := n
  snap := snap
  stage := .integrity
  ride := none
  zones := []
  slices := none
  covered := []
  coveredCount := 0
  rideDue := false
  sane := false
  detail := 0#8
  grace := false
  timeUnchecked := false
  denyReason := 0
  presented := 0
  storedAmount := 0
  image := none
  consumed := false
  sequence := 0

/-- A verdict is given and the judging ends (R20 to R28). -/
def Flight.judge (f : Flight) (v : Verdict) (detail : Byte := 0#8) : Flight :=
  { f with stage := .judged v, detail := detail }

/-- The state with its inspection in flight replaced. -/
def State.setFlight (s : State) (f : Flight) : State :=
  { s with engine := { s.engine with flight := some f } }

/-- The boarding stop of the request ride (R19). -/
def InspectParams.from (p : InspectParams) (snap : Snapshot) : Nat :=
  if p.boarding = Config.absent then snap.stop else p.boarding

/-- The alighting stop of the request ride (R19). -/
def InspectParams.to (p : InspectParams) (h : Header) (snap : Snapshot) : Nat :=
  if p.alighting ≠ Config.absent then p.alighting
  else if snap.kind = .inSection then h.next snap.stop
  else snap.stop

/-- The stop index is given and is N or more. -/
def stopOutOfRange (h : Header) (i : Nat) : Bool :=
  decide (i ≠ Config.absent ∧ h.stops ≤ i)

/-- The detail of the first condition of Table 2-1 that holds (R18). -/
def requestFault (h : Header) (snap : Snapshot) (p : InspectParams) : Option Byte :=
  if 1 < p.presentation then some 0x01#8
  else if stopOutOfRange h p.boarding || stopOutOfRange h p.alighting then some 0x02#8
  else if p.override ≠ Config.absent ∧ 7 < p.override then some 0x03#8
  else if h.ahead (p.from snap) snap.stop then some 0x04#8
  else if h.behind (p.to h snap) (p.from snap) then some 0x05#8
  else none

/-- The flight with its request ride and T formed (R19, R51). -/
def Flight.withRide (f : Flight) (m : Memory) (b a : Nat) : Flight :=
  { f with ride := some (b, a), zones := m.rideZones b a }

/-- T, the number of members of the ride zone set; 0 while it is not formed (R51). -/
def Flight.zoneCount (f : Flight) : Nat :=
  f.zones.length

/-- What the take of cell `n` begins (R16 to R20): NO_SERVICE, BAD_REQUEST, UNREADABLE for its layout, or an image
check asked of the check unit. -/
def State.beginInspection (s : State) (n : Fin 32) : State :=
  let f := Flight.fresh n s.snapshot
  let h := s.mem.header
  let p := s.inspectParams n
  if f.snap.service = .noService then s.setFlight (f.judge .noService)
  else
    match requestFault h f.snap p with
    | some detail => s.setFlight (f.judge .badRequest detail)
    | none =>
      let f := f.withRide s.mem (p.from f.snap) (p.to h f.snap)
      if (Ticket.ofImage (s.cellBody n)).layout ≠ 2 then s.setFlight (f.judge .unreadable 0x01#8)
      else (s.setFlight f).askEngineJob (s.cellBody n)

/-! ### Stages 1 to 4 (R20 to R22) -/

/-- Stages 1 to 3 on the residue of the image check, and the lookup asked for at stage 4 (R2, R3, R21, R22). -/
def State.afterImageCheck (s : State) (f : Flight) (residue : Word) : State :=
  let t := Ticket.ofImage (s.cellBody f.cell)
  if residue ≠ 0#16 then s.setFlight (f.judge .unreadable 0x02#8)
  else if !t.sane then s.setFlight (f.judge .unreadable 0x03#8)
  else
    match s.mem.findIssuer t.issuer with
    | none => s.setFlight (({ f with sane := true }).judge .notAccepted)
    | some e =>
      (s.setFlight { f with sane := true, slices := some (e.sliceA, e.sliceB), stage := .deny }).askEngineLookup
        t.mediaId f.snap.day

/-! ### The mark and the write-back image (R93 to R99) -/

/-- The counter's next value (R93). -/
def nextSequence (counter : Nat) : Nat :=
  if counter = 255 then 1 else counter + 1

/-- An image with new mark fields and rides remaining, its check word still as presented (R95). -/
def composeImage (img : List Byte) (rides train day minute sequence : Nat) : List Byte :=
  img.take 20 ++ [byteOf rides] ++ (img.drop 21).take 2 ++ be16 train ++ be16 day ++ be16 minute ++
    [byteOf sequence] ++ (img.drop 30).take 2

/-- An image with its check word over bytes 0 to 29 stored, high byte first (R95). -/
def sealImage (img : List Byte) (check : Word) : List Byte :=
  img.take 30 ++ checkWordBytes check

/-- The presented image marked with a sequence and `taken` rides taken (R94, R98). -/
def Flight.markedImage (f : Flight) (m : Memory) (img : List Byte) (taken sequence : Nat) : List Byte :=
  composeImage img ((Ticket.ofImage img).ridesRemaining - taken) m.header.train f.snap.serviceDay f.snap.minute
    sequence

/-- What the consumption guard decides for a RECHECK found: none for no image, otherwise the rides the re-composed
image takes (Table 5-2, R97). -/
def consumptionGuard (train serviceDay : Nat) (t : Ticket) (e : RoundEntry) : Option Nat :=
  if e.sequence = 0 then none
  else if t.markTrain = train ∧ t.markDay = serviceDay ∧ t.markSequence = e.sequence then none
  else if !e.consumed then some 0
  else if t.product = productRides then (if t.ridesRemaining = 0 then none else some 1)
  else some 0

/-- The engine goes on with an image under composition: the compose job is asked for (R30, R95). -/
def State.compose (s : State) (f : Flight) (v : Verdict) (img : List Byte) : State :=
  (s.setFlight { f with image := some img, stage := .composing v }).askEngineJob (img.take 30)

/-! ### Stages 5 to 8 (R23 to R28) -/

/-- The verdict of coverage from C and T (R27). -/
def coverageVerdict (c t : Nat) (grace : Bool) : Verdict :=
  if c = 0 then .noCover
  else if c < t then .shortfall
  else if grace then .validGrace
  else .valid

/-- Stage 8 for RIDES and PERIOD: the covered set, C and the verdict (R27, R47, R53). -/
def Flight.judgeZones (f : Flight) (t : Ticket) : Flight :=
  let slices := f.slices.getD (Config.absent, Config.absent)
  let covered := coveredZones t.zoneMask slices.1 slices.2
  let c := countCovered f.zones covered
  let v := coverageVerdict c f.zones.length f.grace
  ({ f with covered := covered, coveredCount := c }).judge v (if v = Verdict.noCover then 0x01#8 else 0#8)

/-- Stage 8 for CHECKIN: the check-in stop, and the ride re-based on it (R28, R52). -/
def Flight.judgeCheckin (f : Flight) (m : Memory) (t : Ticket) : Flight :=
  match m.findStop t.checkinStop with
  | none => f.judge .noCover 0x02#8
  | some i =>
    let a := (f.ride.getD (0, 0)).2
    if m.header.ahead i f.snap.stop || m.header.ahead i a then f.judge .noCover 0x03#8
    else
      let f := f.withRide m i a
      ({ f with coveredCount := f.zoneCount }).judge (if f.grace then .validGrace else .valid)

/-- Stage 8 (R27, R28). -/
def Flight.judgeCoverage (f : Flight) (m : Memory) (t : Ticket) : Flight :=
  if t.product = productCheckin then f.judgeCheckin m t else f.judgeZones t

/-- A RIDES credential needs a ride: its mark is not of this train and service day (R26). -/
def Ticket.needsRide (t : Ticket) (train serviceDay : Nat) : Bool :=
  decide (t.product = productRides) && !decide (t.markTrain = train ∧ t.markDay = serviceDay)

/-- Stages 7 and 8 (R26 to R28). -/
def Flight.judgeRides (f : Flight) (m : Memory) (t : Ticket) : Flight :=
  let due := t.needsRide m.header.train f.snap.serviceDay
  if due && decide (t.ridesRemaining = 0) then f.judge .exhausted
  else ({ f with rideDue := due }).judgeCoverage m t

/-- Stages 6 to 8, for a medium stage 5 does not find (R25 to R28). -/
def Flight.judgeFresh (f : Flight) (m : Memory) (t : Ticket) : Flight :=
  match timeStage m.header f.snap t with
  | .notYetValid => f.judge .notYetValid
  | .expired detail => f.judge .expired detail
  | .unchecked => ({ f with timeUnchecked := true }).judgeRides m t
  | .pass grace => ({ f with grace := grace }).judgeRides m t

/-- The verdict a flight has been given. -/
def Flight.verdict (f : Flight) : Option Verdict :=
  match f.stage with
  | .judged v => some v
  | .composing v => some v
  | .integrity | .deny => none

/-- A judged flight goes to completion: VALID, VALID_GRACE and SHORTFALL compose a write-back image with a new mark,
taking the ride that is due (R30, R91). -/
def State.prepare (s : State) (f : Flight) : State :=
  match f.verdict with
  | some v =>
    if v.marks then
      let next := nextSequence s.engine.counter
      s.compose { f with sequence := next, consumed := f.rideDue } v
        (f.markedImage s.mem (s.cellBody f.cell) (if f.rideDue then 1 else 0) next)
    else s.setFlight f
  | none => s.setFlight f

/-- A RECHECK found in the round list: REPEAT, with the image re-composed where the consumption guard says so (R24,
R97 to R99). -/
def State.repeatFound (s : State) (f : Flight) (t : Ticket) (e : RoundEntry) : State :=
  let f := { f with storedAmount := e.amount, sequence := e.sequence, detail := e.verdict.code }
  match consumptionGuard s.mem.header.train f.snap.serviceDay t e with
  | none => s.setFlight { f with stage := .judged .repeat }
  | some taken => s.compose f .repeat (f.markedImage s.mem (s.cellBody f.cell) taken e.sequence)

/-- Stage 5 and what follows it, for a deny lookup that missed (R23, R24): the round-list lookup raises the count of
the entry found (R86). -/
def State.afterDenyMiss (s : State) (f : Flight) : State :=
  let t := Ticket.ofImage (s.cellBody f.cell)
  match roundEntry s.rounds t.mediaId with
  | some e =>
    let s := { s with rounds := raisePresented s.rounds t.mediaId }
    let f := { f with presented := raisedCount e.presented }
    if (s.inspectParams f.cell).presentation = 0 then s.setFlight (f.judge .passback)
    else s.repeatFound f t e
  | none => s.prepare (f.judgeFresh s.mem t)

/-- The result of the verdict engine's deny lookup (R22). -/
def State.afterDenyLookup (s : State) (f : Flight) (hit : Option DenyEntry) : State :=
  match hit with
  | some e => s.setFlight (({ f with denyReason := e.reason }).judge .revoked)
  | none => s.afterDenyMiss f

/-- The check unit hands the verdict engine a result (R163): the residue of the image check, or the check word of
the image under composition. -/
def State.engineResult (s : State) (result : Word) : State :=
  match s.engine.flight with
  | none => s
  | some f =>
    match f.stage with
    | .integrity => s.afterImageCheck f result
    | .composing v =>
      s.setFlight { f with stage := .judged v, image := f.image.map fun img => sealImage img result }
    | .deny => s
    | .judged _ => s

/-! ### Completion (R29 to R36) -/

/-- The class used (R6): 0 for the refused class, the override, the ticket class after the clamp, or 0. -/
def Flight.classUsed (f : Flight) (p : InspectParams) (t : Ticket) (v : Verdict) : Nat :=
  if v.refused then 0
  else if p.override ≠ Config.absent then p.override
  else if f.sane ∧ t.fareClass ≤ 7 then t.fareClass
  else 0

/-- The flags byte of an INSPECT answer (R36, Table 12-3). -/
def Flight.answerFlags (f : Flight) (p : InspectParams) (t : Ticket) (v : Verdict) : Byte :=
  BitVec.ofNat 8 (f.image.isSome.toNat + 2 * f.consumed.toNat + 4 * f.grace.toNat + 8 * f.timeUnchecked.toNat +
    16 * (f.sane && decide (7 < t.fareClass)).toNat +
    32 * (!v.refused && decide (p.override ≠ Config.absent)).toNat)

/-- The answer of an inspection (R35, Table 12-3). -/
def Flight.answer (f : Flight) (p : InspectParams) (t : Ticket) (v : Verdict) (amount presented : Nat) : List Byte :=
  [v.code, f.detail] ++ le16 amount ++
    [byteOf f.zoneCount, byteOf f.coveredCount, byteOf (f.classUsed p t v), f.answerFlags p t v] ++
    le16 f.snap.round ++
    [byteOf (if f.snap.kind = .nowhere then Config.absent else f.snap.stop), byteOf f.snap.kind.code,
      byteOf f.sequence, byteOf f.denyReason] ++
    le16 f.snap.day ++ le16 f.snap.minute ++ [byteOf presented]

/-- The round list after a completion, and the presented count of the answer (R31, R87, R88). -/
def State.completedRounds (s : State) (f : Flight) (t : Ticket) (v : Verdict) (amount : Nat) :
    List RoundEntry × Nat :=
  if v.inserted then
    if f.snap.round = s.journey.round then
      roundInsert s.rounds
        { mediaId := t.mediaId, verdict := v, amount := amount, consumed := f.consumed, sequence := f.sequence,
          presented := 1 }
    else (s.rounds, 0)
  else (s.rounds, f.presented)

/-- The record a fill of the capture carries (R32). -/
def State.captureRecord (s : State) (f : Flight) (v : Verdict) (amount : Nat) : CaptureRecord where
  round := f.snap.round
  stop := f.snap.stop
  kind := f.snap.kind
  day := f.snap.day
  minute := f.snap.minute
  cell := f.cell
  tag := s.cellTag f.cell
  verdict := v
  amount := amount

/-- A fault-class verdict asks for a fill of the capture, which an ARMED capture takes, setting FIRST_FAULT, and a
HELD one refuses (R32, R136). -/
def State.fillCapture (s : State) (f : Flight) (v : Verdict) (amount : Nat) : State :=
  if v.faultClass && s.journey.capture.isNone then
    ({ s with journey := { s.journey with capture := some (s.captureRecord f v amount) } }).raise .firstFault
  else s

/-- The completion event of an inspection judged `v` (R29 to R33): the round list, the capture, the counter, the
answer, the body and DONE, all together. -/
def State.completeInspection (s : State) (f : Flight) (v : Verdict) : State :=
  let p := s.inspectParams f.cell
  let t := Ticket.ofImage (s.cellBody f.cell)
  let amount := s.mem.amount v f.zoneCount f.coveredCount (f.classUsed p t v) f.storedAmount
  let inserted := s.completedRounds f t v amount
  let s := { s with rounds := inserted.1 }
  let s := s.fillCapture f v amount
  let counter := if v.marks then f.sequence else s.engine.counter
  let s := { s with engine := { flight := none, counter := counter } }
  let s := s.post f.cell (f.answer p t v amount inserted.2) f.image
  s.rewriteMirror

end Sys2Proof.Machine
end

