-- ==== Sys2Proof/Machine/Tables.lean ====
section
/-! DEFINITION. The table unit: opening and closing a service, DENY-BATCH and DENY-PROBE (chapters 6 and 8). -/

namespace Sys2Proof.Machine

/-! ### The unit and its cell (R147) -/

/-- The head of the table queue when the unit is free and its arrival kind is the one given. -/
def State.tableHead (s : State) (kind : RequestKind) : Option (Fin 32) :=
  if s.table.held.isSome then none
  else s.intake.table.head?.filter fun n => decide (s.kindOf n = some kind)

/-- The table unit holds a cell with a task. -/
def State.hold (s : State) (n : Fin 32) (task : TableTask) : State :=
  { s with table := { s.table with held := some (n, task) } }

/-- The table unit's answer is posted and the unit is free (R180). -/
def State.finishTable (s : State) (n : Fin 32) (answer : List Byte) : State :=
  ({ s with table := { s.table with held := none } }).post n answer

/-- The service state becomes another, and the mirror shows it (R147, R139). -/
def State.enterService (s : State) (service : ServiceState) : State :=
  ({ s with table := { s.table with service := service } }).rewriteMirror

/-! ### The field checks of an open (R151, Table 8-4) -/

/-- A row of Table 8-4, read on the tables as they stand: whether its condition holds, and what it reports. -/
structure CheckRow where
  fails : Bool
  table : Nat
  detail : Byte
  entry : Nat
deriving DecidableEq, Repr

/-! The details of Table 8-4. -/
abbrev detailCheck : Byte := 0x01#8
abbrev detailRange : Byte := 0x02#8
abbrev detailOrder : Byte := 0x03#8
abbrev detailDuplicate : Byte := 0x04#8
abbrev detailSlice : Byte := 0x05#8
abbrev detailFlags : Byte := 0x06#8
abbrev detailOrigin : Byte := 0x07#8

/-- Rows 1 to 8: the header's ranges, the origin apart. -/
def headerRows (h : Header) : List CheckRow :=
  [⟨decide (h.train = 0), 1, detailRange, 0⟩,
    ⟨decide (1 < h.direction), 1, detailRange, 1⟩,
    ⟨decide (h.stops < 2 ∨ 48 < h.stops), 1, detailRange, 3⟩,
    ⟨decide (359 < h.dayChange), 1, detailRange, 4⟩,
    ⟨decide (30 < h.grace), 1, detailRange, 5⟩,
    ⟨decide (h.rounding < 1 ∨ 100 < h.rounding), 1, detailRange, 6⟩,
    ⟨decide (h.cap = 0), 1, detailRange, 8⟩,
    ⟨decide (h.issuerCount < 1 ∨ 16 < h.issuerCount), 1, detailRange, 9⟩]

/-- A slice is neither 0 to 31 nor FFh. -/
def badSlice (x : Nat) : Bool :=
  decide (31 < x ∧ x ≠ Config.absent)

/-- Rows 9 to 12 for issuer entry `j`. -/
def issuerRows (m : Memory) (j : Nat) : List CheckRow :=
  let e := m.issuer j
  [⟨decide (63 < e.code), 2, detailRange, j⟩,
    ⟨badSlice e.sliceA || badSlice e.sliceB, 2, detailSlice, j⟩,
    ⟨decide (e.zero ≠ 0), 2, detailRange, j⟩,
    ⟨(List.range j).any fun i => (m.issuer i).code == e.code, 2, detailDuplicate, j⟩]

/-- Row 13. -/
def classRows (m : Memory) : List CheckRow :=
  (List.range 8).map fun c => ⟨decide (100 < m.share c), 3, detailRange, c⟩

/-- Row 14, for x from 2 to 16, reported at entry x − 1. -/
def fareRows (m : Memory) : List CheckRow :=
  (List.range' 2 15).map fun x => ⟨decide (m.fare x < m.fare (x - 1)), 4, detailOrder, x - 1⟩

/-- Rows 15 to 17 for route entry `j`. -/
def routeRows (m : Memory) (j : Nat) : List CheckRow :=
  let e := m.route j
  [⟨decide (e.code = 0 ∨ e.code = Config.noneWord), 5, detailRange, j⟩,
    ⟨(List.range j).any fun i => (m.route i).code == e.code, 5, detailDuplicate, j⟩,
    ⟨decide (1 < e.flags.toNat), 5, detailFlags, j⟩]

/-- Row 18. -/
def originRow (h : Header) : CheckRow :=
  ⟨decide (h.stops ≤ h.origin ∨ h.origin = h.terminus), 1, detailOrigin, 2⟩

/-- Every row of Table 8-4 in its order (R151). -/
def Memory.checkRows (m : Memory) : List CheckRow :=
  let h := m.header
  headerRows h ++ (List.range h.issuerCount).flatMap (issuerRows m) ++ classRows m ++ fareRows m ++
    (List.range h.stops).flatMap (routeRows m) ++ [originRow h]

/-- The first field check that fails (R151). -/
def Memory.fieldFault (m : Memory) : Option CheckRow :=
  m.checkRows.find? fun r => r.fails

/-! ### SERVICE-OPEN (R149 to R153) -/

/-- The answer of a SERVICE-OPEN (R158, Table 12-6). -/
def openAnswer (outcome detail : Byte) (table entry serviceDay day minute : Nat) : List Byte :=
  [outcome, detail, byteOf table, byteOf entry] ++ le16 serviceDay ++ le16 day ++ le16 minute

/-- A SERVICE-OPEN refused at its take: the cell is answered and nothing else changes (R149). -/
def State.refuseOpen (s : State) (n : Fin 32) (detail : Byte) : State :=
  (s.take .table n).finishTable n (openAnswer Outcome.refusedState detail 0 Config.absent 0 0 0)

/-- The table unit asks for the residue of a table (R150). -/
def State.checkTable (s : State) (n : Fin 32) (table : Nat) : State :=
  (s.hold n (.serviceOpen table Config.absent false)).askTableJob (Config.tableExtent table).1
    (Config.tableExtent table).2

/-- A failed check ends the open: TABLE_INVALID, NO_SERVICE, the guard ended (R152). -/
def State.failOpen (s : State) (n : Fin 32) (table : Nat) (detail : Byte) (entry : Nat) : State :=
  (s.enterService .noService).finishTable n (openAnswer Outcome.tableInvalid detail table entry 0 0 0)

/-- The residue of a table is handed to the open (R150, R151): a residue other than 0000h ends it, the next table
follows, and after table 5 the field checks. -/
def State.openResidue (s : State) (n : Fin 32) (table : Nat) (residue : Word) : State :=
  if residue ≠ 0#16 then s.failOpen n table detailCheck Config.absent
  else if table < 5 then s.checkTable n (table + 1)
  else
    match s.mem.fieldFault with
    | some r => s.failOpen n r.table r.detail r.entry
    | none => s.hold n (.serviceOpen 1 2 true)

/-- The take of a SERVICE-OPEN (R149). -/
def State.takeOpen (s : State) (n : Fin 32) : State :=
  if s.table.service.isOpen then s.refuseOpen n 0x01#8
  else if !s.clock.valid then s.refuseOpen n 0x02#8
  else ((s.take .table n).enterService .checking).checkTable n 1

/-- The completion event of an open (R153). -/
def State.completeOpen (s : State) (n : Fin 32) : State :=
  let h := s.mem.header
  let day := serviceDayOf s.clock.day s.clock.minute h.dayChange
  let s := { s with engine := { s.engine with counter := 0 } }
  let s := (s.placeAtOrigin h.origin day).enterService .inService
  s.finishTable n (openAnswer Outcome.done 0#8 0 Config.absent day s.clock.day s.clock.minute)

/-! ### SERVICE-CLOSE (R156, R157) -/

/-- The answer of a SERVICE-CLOSE (R158, Table 12-7). -/
def closeAnswer (outcome detail : Byte) (service : ServiceState) (round stop : Nat) (kind : PosKind) : List Byte :=
  [outcome, detail, byteOf service.code] ++ le16 round ++ [byteOf stop, byteOf kind.code]

/-- The answer of a completed close, from the state just before (R157, R158). -/
def State.closingAnswer (s : State) : List Byte :=
  closeAnswer Outcome.done 0#8 s.table.service s.journey.round
    (if s.journey.kind = .nowhere then Config.absent else s.journey.stop) s.journey.kind

/-- The completion event of a close (R157). -/
def State.completeClose (s : State) (n : Fin 32) : State :=
  (s.endJourney.enterService .noService).finishTable n s.closingAnswer

/-- The take of a SERVICE-CLOSE (Table 8-5). -/
def State.takeClose (s : State) (n : Fin 32) : State :=
  match s.table.service with
  | .noService =>
    (s.take .table n).finishTable n (closeAnswer Outcome.done 0x01#8 .noService 0 Config.absent .nowhere)
  | .checking => (s.take .table n).finishTable n [Outcome.refusedState]
  | .inService | .terminated =>
    if s.engine.flight.isNone then (s.take .table n).completeClose n
    else (s.take .table n).hold n .serviceClose

/-! ### DENY-BATCH (R107 to R114) -/

/-- The answer of a DENY-BATCH with the entry count as the list stands (R114, Table 12-8). -/
def State.batchAnswer (s : State) (r : Byte × Byte) (applied stopping : Nat) : List Byte :=
  [r.1, r.2] ++ le16 applied ++ le16 stopping ++ le16 s.deny.list.length

/-- The cell of a batch is answered, and its guard ends (R108, R114). -/
def State.finishBatch (s : State) (n : Fin 32) (r : Byte × Byte) (applied stopping : Nat) : State :=
  s.finishTable n (s.batchAnswer r applied stopping)

/-- The detail of the first range condition that holds (R107). -/
def Memory.rangeFault (m : Memory) (offset : Nat) : Option Byte :=
  if offset < Config.bulkBase ∨ 0x7FFE < offset then some 0x01#8
  else if m.batchCount offset = 0 ∨ Config.batchMax < m.batchCount offset then some 0x02#8
  else if Config.memoryEnd < offset + batchLength (m.batchCount offset) then some 0x03#8
  else none

/-- The take of a DENY-BATCH: the range check, and on a pass the guard and the batch check (R107 to R109). -/
def State.takeBatch (s : State) (n : Fin 32) : State :=
  let offset := s.cellWord n 8
  let s := s.take .table n
  match s.mem.rangeFault offset with
  | some detail => s.finishBatch n (Outcome.badRequest, detail) 0 Config.noneWord
  | none =>
    let count := s.mem.batchCount offset
    (s.hold n (.denyBatch offset count 0 false)).askTableJob offset (batchLength count)

/-- The edit a legal record hands over, or the detail of the record that stops the batch (R113). -/
def BatchRecord.judge (r : BatchRecord) : Except Byte Edit :=
  if r.op = 1 then
    if 1 ≤ r.reason ∧ r.reason ≤ 15 then .ok (.add r.mediaId r.reason r.expiry) else .error 0x05#8
  else if r.op = 2 then .ok (.delete r.mediaId)
  else if r.op = 3 then .ok .clear
  else .error 0x04#8

/-- The batch goes on with `applied` records applied: DONE when none is left, otherwise the next record is judged and
handed over or stops the batch (R110, R113). -/
def State.continueBatch (s : State) (n : Fin 32) (offset count applied : Nat) : State :=
  if count ≤ applied then s.finishBatch n (Outcome.done, 0#8) applied Config.noneWord
  else
    match (s.mem.batchRecord offset applied).judge with
    | .error detail => s.finishBatch n (Outcome.badRequest, detail) applied applied
    | .ok e => (s.hold n (.denyBatch offset count applied true)).handEdit e

/-- The residue of a batch is handed to it (R109). -/
def State.batchResidue (s : State) (n : Fin 32) (offset count : Nat) (residue : Word) : State :=
  if residue ≠ 0#16 then s.finishBatch n (Outcome.checkFailed, 0#8) 0 Config.noneWord
  else s.continueBatch n offset count 0

/-- The deny list unit's edit is over and it hands the batch the result: the next record where it was applied (R110),
or the end of the batch where an ADD found the list full (R113). -/
def State.afterEdit (s : State) (applied : Bool) : State :=
  let s := { s with deny := { s.deny with edit := none } }
  match s.table.held with
  | some (n, .denyBatch offset count i true) =>
    if applied then s.continueBatch n offset count (i + 1)
    else s.finishBatch n (Outcome.tableFull, 0#8) i i
  | _ => s

/-- The deny list changes, and the mirror's count with it (R102). -/
def State.setDenyList (s : State) (l : List DenyEntry) : State :=
  ({ s with deny := { s.deny with list := l } }).rewriteMirror

/-- The edit in service at the deny list unit, or begun now by a free unit that chooses it (R105). -/
def State.servedEdit (s : State) : Option Edit :=
  if s.deny.choose.serving = some .edit then s.deny.edit else none

/-- An ADD edit completes (R111, R113). -/
def State.applyAdd (s : State) (media reason expiry : Nat) : State :=
  if denyFullFor s.deny.list media then ((s.raise .denyFull).afterEdit false).completeDeny
  else
    ((s.setDenyList (denyInsert s.deny.list { mediaId := media, reason := reason, expiry := expiry })).afterEdit
      true).completeDeny

/-- A DELETE edit completes (R112). -/
def State.applyDelete (s : State) (media : Nat) : State :=
  ((s.setDenyList (denyRemove s.deny.list media)).afterEdit true).completeDeny

/-- A CLEAR edit completes (R112). -/
def State.applyClear (s : State) : State :=
  ((s.setDenyList []).afterEdit true).completeDeny

/-- A sweep step completes (R119). -/
def State.applySweepStep (s : State) : State :=
  (({ s with deny := s.deny.sweepOnce }).rewriteMirror).completeDeny

/-! ### DENY-PROBE (R116, R117) -/

/-- The take of a DENY-PROBE (R116). -/
def State.takeProbe (s : State) (n : Fin 32) : State :=
  let media := s.probeMedia n
  ((s.take .table n).hold n .denyProbe).askProbeLookup media

/-- The answer of a DENY-PROBE served on a day (R117, Table 12-11). -/
def State.probeAnswer (s : State) (media : Nat) : List Byte :=
  let day := s.clock.day
  let found := denyEntry s.deny.list media
  let finding : Byte := match found with
    | none => 0x00#8
    | some e => if e.denies day then 0x01#8 else 0x02#8
  let reason := (found.map DenyEntry.reason).getD 0
  let expiry := (found.map DenyEntry.expiry).getD 0
  [Outcome.done, finding, byteOf reason] ++ le16 expiry ++ le16 day ++ le16 s.deny.list.length

/-- The table unit's lookup is served: the probe is answered in the same event (R116). -/
def State.serveProbe (s : State) (media : Nat) : State :=
  let s := { s with deny := { s.deny with probeLookup := none } }
  match s.table.held with
  | some (n, .denyProbe) => (s.finishTable n (s.probeAnswer media)).completeDeny
  | _ => s.completeDeny

/-- The verdict engine's lookup is served, and the inspection goes on in the same event (R22, R103). -/
def State.serveEngineLookup (s : State) (media day : Nat) : State :=
  let hit := denyHit s.deny.list media day
  let s := { s with deny := { s.deny with engineLookup := none } }
  match s.engine.flight with
  | some f => (if f.stage = .deny then s.afterDenyLookup f hit else s).completeDeny
  | none => s.completeDeny

/-! ### Results of the check unit (R163) -/

/-- The check unit hands the table unit a residue. -/
def State.tableResult (s : State) (residue : Word) : State :=
  match s.table.held with
  | some (n, .serviceOpen table _ false) => s.openResidue n table residue
  | some (n, .denyBatch offset count _ false) => s.batchResidue n offset count residue
  | _ => s

/-- The check unit takes the last bit of the job it serves, begins what waits in the other slot, and hands the result
over (R163, R164). A job that the result leads to finds the unit idle, or waits (R165). A residue that ends an open or a
batch posts its answer here (R152, R109), and by R185 a reset that comes next leaves the DONE cell with that answer; how
R166's "leaves no trace" is read beside it is log entry 25 (DEDUCED). -/
def State.endJob (s : State) : State :=
  match s.check.serving, s.check.engineJob, s.check.tableJob with
  | some { owner := .verdictEngine, remainder := r }, some run, _ =>
    let s := ({ s with check := { s.check with serving := none, engineJob := none } }).chooseCheck
    s.engineResult (checkFrom r run)
  | some { owner := .tableUnit, remainder := r }, _, some j =>
    let result := s.pieceRemainder j r
    let s := ({ s with check := { s.check with serving := none, tableJob := none } }).chooseCheck
    s.tableResult result
  | _, _, _ => s

end Sys2Proof.Machine
end

