-- ==== Sys2Proof/Machine/Reset.lean ====
section
/-! DEFINITION. Power-on and engine reset (R184 to R186, R140, R162, R197). -/

namespace Sys2Proof.Machine

/-- RESET_N: every block at its power-on state (R184). The model's own queue of waiting commands is kept. -/
def State.powerOn (s : State) : State :=
  { State.reset with pending := s.pending }

/-- The applied counter of the batch in flight in cell `n`; 0 for another cell (R115). -/
def TableUnit.appliedIn (t : TableUnit) (n : Fin 32) : Nat :=
  match t.held with
  | some (m, .denyBatch _ _ applied _) => if m = n then applied else 0
  | _ => 0

/-- The answer of a cell that an engine reset finds TAKEN (Table 10-4). -/
def State.abortedAnswer (s : State) (n : Fin 32) : List Byte :=
  if s.kindOf n = some .denyBatch then
    s.batchAnswer (Outcome.aborted, 0#8) (s.table.appliedIn n) Config.noneWord
  else [Outcome.aborted]

/-- Intake answers a cell ABORTED when it is TAKEN (R185). -/
def State.abortCell (s : State) (n : Fin 32) : State :=
  if s.cellState n = .taken then s.post n (s.abortedAnswer n) else s

/-- Intake answers every TAKEN cell ABORTED (R185). -/
def State.abortTaken (s : State) : State :=
  (List.finRange 32).foldl State.abortCell s

/-- The READY cells of one queue's kinds, by rising cell index (R186). -/
def State.readyCells (s : State) (q : QueueId) : List (Fin 32) :=
  (List.finRange 32).filter fun n =>
    decide (s.cellState n = .ready) && decide ((s.kindOf n).map RequestKind.queue = some q)

/-- Intake empties the three queues and rebuilds them from the READY cells (R186). -/
def State.rebuildQueues (s : State) : State :=
  { s with intake := { s.intake with
      inspection := s.readyCells .inspection
      journey := s.readyCells .journey
      table := s.readyCells .table } }

/-- The blocks' own state after an engine reset: what each chapter resets at its power-on value, the clock, the deny
list, EVENT_ENABLE and the fields of ENG_CONTROL kept (R14, R65, R83, R101, R120, R122, R147, R162, R197). -/
def State.resetBlocks (s : State) : State :=
  { s with
    engine := State.reset.engine
    journey := State.reset.journey
    table := State.reset.table
    rounds := State.reset.rounds
    deny := { State.reset.deny with list := s.deny.list }
    check := State.reset.check
    notice := { s.notice with flags := State.reset.notice.flags, latch := none } }

/-- An engine reset, one event (R185, R186): the ABORTED answers, the rebuilt queues, every block's reset, and the
mirror written afresh with the clock fields and the deny list count kept (R140). -/
def State.engineReset (s : State) : State :=
  s.abortTaken.rebuildQueues.resetBlocks.rewriteMirror

end Sys2Proof.Machine
end

