-- ==== Sys2Proof/Machine/Intake.lean ====
section
/-! DEFINITION. Host writes: cell intake's judgement of state bytes, the guards, the regions of exchange memory and
the registers (R168 to R178, R182, R183, R188, R189, R196, R199). -/

namespace Sys2Proof.Machine

/-! ### State-byte writes (Table 10-3) -/

/-- A write of READY into an EMPTY cell: an arrival, or intake's own answer for an unknown kind (R174, R175). -/
def State.arriveCell (s : State) (n : Fin 32) : State :=
  let kind := s.cellByte n Config.kindOffset
  let s := { s with intake := { s.intake with arrivalKind := s.intake.arrivalKind.set n kind } }
  match RequestKind.ofByte kind with
  | some k =>
    ({ s with intake := s.intake.setQueue k.queue (s.intake.queue k.queue ++ [n]) }).setCellState n .ready
  | none => s.post n [Outcome.badRequest, 0x01#8]

/-- A write of EMPTY into a READY cell: a withdrawal (R177). -/
def State.withdrawCell (s : State) (n : Fin 32) : State :=
  let s := match s.kindOf n with
    | some k =>
      { s with intake := s.intake.setQueue k.queue ((s.intake.queue k.queue).filter fun m => decide (m ≠ n)) }
    | none => s
  s.setCellState n .empty

/-- A write of EMPTY into a DONE cell: a release (R178). -/
def State.releaseCell (s : State) (n : Fin 32) : State :=
  s.setCellState n .empty

/-- A host write to a state byte (Table 10-3). -/
def State.writeStateByte (s : State) (n : Fin 32) (v : Byte) : State :=
  match s.cellState n with
  | .empty => if v = 0#8 then s else if v = 1#8 then s.arriveCell n else s.raise .cellMisuse
  | .ready => if v = 0#8 then s.withdrawCell n else if v = 1#8 then s else s.raise .cellMisuse
  | .taken => s
  | .done => if v = 0#8 then s.releaseCell n else s.raise .cellMisuse

/-! ### Guards (R148, R182, R183) -/

/-- The first address and the length of the batch extent under guard (R183). -/
def TableUnit.batchExtent (t : TableUnit) : Option (Nat × Nat) :=
  match t.held with
  | some (_, .denyBatch offset count _ _) => some (offset, batchLength count)
  | _ => none

/-- The address lies in the guarded batch extent. -/
def TableUnit.inExtent (t : TableUnit) (a : Nat) : Bool :=
  t.batchExtent.any fun e => decide (e.1 ≤ a ∧ a < e.1 + e.2)

/-- The cell an address below 0800h lies in. -/
def cellOf (a : Nat) : Fin 32 :=
  Fin.ofNat 32 (a / Config.cellSize)

/-- A guard or the mirror keeps a host write from the byte at an address of exchange memory, the state bytes apart:
a TAKEN cell, the context region of a service in hand, a batch extent. -/
def State.guarded (s : State) (a : Nat) : Bool :=
  if a < Config.mirrorBase then decide (s.cellState (cellOf a) = .taken)
  else if a < Config.contextBase then false
  else if a < Config.bulkBase then decide (s.table.service ≠ .noService)
  else s.table.inExtent a

/-- A host write to one byte of exchange memory, by the rule of its region (Table 10-1). -/
def State.writeByte (s : State) (a : Nat) (b : Byte) : State :=
  if a < Config.mirrorBase ∧ a % Config.cellSize = 0 then s.writeStateByte (cellOf a) b
  else if Config.mirrorBase ≤ a ∧ a < Config.scratchBase then s
  else if s.guarded a then s.raise .guardHit
  else { s with mem := s.mem.write a b }

/-! ### Registers (R188, R189, R196, R199) -/

/-- A host write to ENG_CONTROL, whose fields all lie in the low lane: the fields first, then the engine reset when
bit 0 is 1 (R196). -/
def State.writeEngControl (s : State) (data : Word) (lanes : Lanes) : State :=
  if lanes.low then
    let s := { s with notice := s.notice.control data }
    if data.getLsbD 0 then s.engineReset else s
  else s

/-- A host write to EVENT_FLAGS; the mirror's capture fields follow a re-arm (R188, R137). -/
def State.clearEvents (s : State) (data : Word) (lanes : Lanes) : State :=
  if (laneFlags data lanes).getLsbD 8 then (s.writeEventFlags data lanes).rewriteMirror
  else s.writeEventFlags data lanes

/-- A host write to a register address or above: writes to ENG_STATUS, NOTICE and addresses without storage are
ignored (R168, R199). -/
def State.writeRegister (s : State) (a : Nat) (data : Word) (lanes : Lanes) : State :=
  if a = Config.engControlAddr then s.writeEngControl data lanes
  else if a = Config.eventFlagsAddr then s.clearEvents data lanes
  else if a = Config.eventEnableAddr then s.writeEventEnable data lanes
  else s

/-! ### The access (R168, R170) -/

/-- A host write of a word to exchange memory, byte by byte in the lanes selected: the odd byte first, so that a
kind byte is stored before its state byte is judged (R170). -/
def State.writeMemoryWord (s : State) (a : Nat) (data : Word) (lanes : Lanes) : State :=
  let s := if lanes.high then s.writeByte (a + 1) (highByte data) else s
  if lanes.low then s.writeByte a (lowByte data) else s

/-- A host write access anywhere on the port (R168). -/
def State.hostWrite (s : State) (addr data : Word) (lanes : Lanes) : State :=
  let a := evenAddress addr
  if a < Config.memoryEnd then s.writeMemoryWord a data lanes else s.writeRegister a data lanes

/-- A host write of a value to a cell's state byte, with the kind byte in the same access or without (R170). -/
def State.writeCellWord (s : State) (n : Fin 32) (value : Byte) (kind : Option Byte) : State :=
  s.writeMemoryWord (cellBase n) (wordOfBytes value (kind.getD 0#8)) { low := true, high := kind.isSome }

end Sys2Proof.Machine
end

