-- ==== Sys2Proof/Machine/HostCommands.lean ====
section
/-! DEFINITION. The meanings of the commands that come over the host port or by RESET_N. Each is one event: its
effect, then NOTE_N driven by the causes as they stand (R194), and then the work that waits at a free unit begun (R105,
R164). The two that no cause depends on, a read of mirror word 0 and an ignored write, leave the line alone. -/

namespace Sys2Proof.Machine

/-- Each of the two shared units that is free begins the work that waits for it (R105, R164), but no sweep step
(log entry 9). -/
def State.settled (s : State) : State :=
  s.chooseCheck.advanceDeny

/-- A moment with no command: each of the two shared units that is free begins the work that waits for it, a sweep step
too (DESIGN CHOICE, log entries 3 and 9). -/
def State.idle (s : State) : State :=
  s.chooseCheck.chooseDeny

/-- An event has come about: NOTE_N follows the causes it leaves (R194), and each unit that is free begins what waits
for it, this event's requests among it (R105, R164, R165). -/
def State.event (s : State) : Host.Outcome State Fault Refusal :=
  .next s.driveNote.settled

/-- An event has come about whose request to a shared unit may fall together with the next event: a job of the table
unit (R165) or the next edit of a batch (R106). The unit begins it with the next event, or at a moment with no command
(DESIGN CHOICE, log entry 9). -/
def State.asking (s : State) : Host.Outcome State Fault Refusal :=
  .next s.driveNote

/-- POWER_ON (R184). -/
def execPowerOn (s : State) : Host.Outcome State Fault Refusal :=
  s.powerOn.event

/-- ENGINE_RESET (R185, R196). -/
def execEngineReset (data : Word) (lanes : Lanes) (s : State) : Host.Outcome State Fault Refusal :=
  (s.writeEngControl data lanes).event

/-- ANSWER_MODE (R196). -/
def execAnswerMode (data : Word) (lanes : Lanes) (s : State) : Host.Outcome State Fault Refusal :=
  (s.writeEngControl data lanes).event

/-- WATERMARK (R192, R196). -/
def execWatermark (data : Word) (lanes : Lanes) (s : State) : Host.Outcome State Fault Refusal :=
  (s.writeEngControl data lanes).event

/-- JOURNEY_FIRST (R194, R196). -/
def execJourneyFirst (data : Word) (lanes : Lanes) (s : State) : Host.Outcome State Fault Refusal :=
  (s.writeEngControl data lanes).event

/-- REARM (R191, R196). -/
def execRearm (data : Word) (lanes : Lanes) (s : State) : Host.Outcome State Fault Refusal :=
  (s.writeEngControl data lanes).event

/-- EVENT_FLAGS_CLEAR (R188). -/
def execEventFlagsClear (data : Word) (lanes : Lanes) (s : State) : Host.Outcome State Fault Refusal :=
  (s.clearEvents data lanes).event

/-- EVENT_ENABLE_WRITE (R189). -/
def execEventEnableWrite (data : Word) (lanes : Lanes) (s : State) : Host.Outcome State Fault Refusal :=
  (s.writeEventEnable data lanes).event

/-- The address of a register whose writes are ignored. -/
def readOnlyAddress : ReadOnlyReg → Nat
  | .engStatus => Config.engStatusAddr
  | .notice => Config.noticeAddr

/-- REGISTER_WRITE_IGNORED (R199). -/
def execRegisterWriteIgnored (reg : ReadOnlyReg) (data : Word) (lanes : Lanes) (s : State) :
    Host.Outcome State Fault Refusal :=
  .next (s.writeRegister (readOnlyAddress reg) data lanes).settled

/-- MIRROR_WORD0_READ (R141). -/
def execMirrorWord0Read (lanes : Lanes) (s : State) : Host.Outcome State Fault Refusal :=
  .next (s.readMirrorWord0 lanes).settled

/-- HOST_WRITE (R170). A write with neither lane selected, which R168 calls an event at no block, touches no byte; it is
still one event, with which a free unit begins the work that waited (DESIGN CHOICE, log entry 9). -/
def execHostWrite (addr data : Word) (lanes : Lanes) (s : State) : Host.Outcome State Fault Refusal :=
  (s.hostWrite addr data lanes).event

/-- ARRIVAL (R174, R175): READY written to a state byte, judged by Table 10-3. -/
def execArrival (cell : Fin 32) (kind : Option Byte) (s : State) : Host.Outcome State Fault Refusal :=
  (s.writeCellWord cell 1#8 kind).event

/-- WITHDRAWAL (R177): EMPTY written to a state byte, judged by Table 10-3. -/
def execWithdrawal (cell : Fin 32) (s : State) : Host.Outcome State Fault Refusal :=
  (s.writeCellWord cell 0#8 none).event

/-- RELEASE (R178): EMPTY written to a state byte, judged by Table 10-3. -/
def execRelease (cell : Fin 32) (s : State) : Host.Outcome State Fault Refusal :=
  (s.writeCellWord cell 0#8 none).event

end Sys2Proof.Machine
end

