-- ==== Sys2Proof/Machine/Journeys.lean ====
section
/-! DEFINITION. The journey unit's requests: JOURNEY with its four events and CLOCK-SET, each served in one event
(R70 to R72, R124 to R129). -/

namespace Sys2Proof.Machine

/-- An answer's outcome and detail. -/
abbrev Reply := Byte × Byte

/-- The head of the journey queue when its arrival kind is the one given. -/
def State.journeyHead (s : State) (kind : RequestKind) : Option (Fin 32) :=
  s.intake.journey.head?.filter fun n => decide (s.kindOf n = some kind)

/-- The head of the journey queue when it is a JOURNEY cell whose event is the one given. -/
def State.eventHead (s : State) (event : Byte) : Option (Fin 32) :=
  (s.journeyHead .journey).filter fun n => decide (s.journeyEvent n = event)

/-- The head of the journey queue when it is a JOURNEY cell whose event is not 1 to 4. -/
def State.badEventHead (s : State) : Option (Fin 32) :=
  (s.journeyHead .journey).filter fun n =>
    !decide (s.journeyEvent n = 1#8 ∨ s.journeyEvent n = 2#8 ∨ s.journeyEvent n = 3#8 ∨ s.journeyEvent n = 4#8)

/-- Rows 1 and 2 of Table 7-1, on the service state. -/
def stateRefusal : ServiceState → Option Reply
  | .noService => some (Outcome.refusedState, 0#8)
  | .checking => some (Outcome.refusedState, 0#8)
  | .terminated => some (Outcome.journeyEnded, 0#8)
  | .inService => none

/-- Row 6 of Table 7-1: the boundaries would raise the round above 65535. -/
def State.roundLimit (s : State) (boundaries : Nat) : Bool :=
  decide (Config.wordMax < s.journey.round + boundaries)

/-- A BAD_REQUEST with its detail. -/
def badRequest (detail : Byte) : Reply :=
  (Outcome.badRequest, detail)

/-- The answer of a JOURNEY request from the state at the end of its event (R124, Table 12-4). -/
def State.journeyAnswer (s : State) (r : Reply) (boundaries : Nat) : List Byte :=
  [r.1, r.2, byteOf s.table.service.code,
    byteOf (if s.journey.kind = .nowhere then Config.absent else s.journey.stop), byteOf s.journey.kind.code] ++
    le16 s.journey.round ++ [byteOf boundaries]

/-- The journey unit takes cell `n`, and answers it after its event has been carried out (R124, R179, R180). -/
def State.answerJourney (s : State) (n : Fin 32) (r : Reply) (boundaries : Nat) : State :=
  s.post n (s.journeyAnswer r boundaries)

/-- A refused JOURNEY request changes nothing but its cell (R124). -/
def State.refuseJourney (s : State) (n : Fin 32) (r : Reply) : State :=
  (s.take .journey n).answerJourney n r 0

/-! ### DEPART (R125) -/

/-- DEPART from a stop enters the section; in section it reports NO_CHANGE. -/
def State.serveDepart (s : State) (n : Fin 32) : State :=
  match stateRefusal s.table.service with
  | some r => s.refuseJourney n r
  | none =>
    let s := s.take .journey n
    if s.journey.kind = .inSection then s.answerJourney n (Outcome.done, 0x01#8) 0
    else
      (({ s with journey := { s.journey with kind := .inSection } }).rewriteMirror).answerJourney n
        (Outcome.done, 0#8) 0

/-! ### ARRIVE (R126, R127) -/

/-- The target of an ARRIVE: the stop given or the next stop. -/
def State.arriveTarget (s : State) (n : Fin 32) : Nat :=
  (s.journeyStop n).getD (s.mem.header.next s.journey.stop)

/-- The stops an ARRIVE at a target reaches, the target included (R126). -/
def State.arrivePath (s : State) (target : Nat) : List Nat :=
  s.mem.header.stopsBetween (s.mem.header.next s.journey.stop) target

/-- Rows 4 to 6 of Table 7-1 for an ARRIVE. -/
def State.arriveFault (s : State) (n : Fin 32) : Option Reply :=
  let h := s.mem.header
  let target := s.arriveTarget n
  if (s.journeyStop n).any fun i => decide (h.stops ≤ i) then some (badRequest 0x02#8)
  else if (s.journeyStop n).any fun i => !h.ahead i s.journey.stop then some (badRequest 0x03#8)
  else if s.roundLimit (s.mem.boundaryCount (s.arrivePath target)) then some (badRequest 0x09#8)
  else none

/-- The effects of an accepted ARRIVE but for its answer (R127). -/
def State.arriveAt (s : State) (target : Nat) : State :=
  let count := s.mem.boundaryCount (s.arrivePath target)
  let s := { s with journey := { s.journey with kind := .atStop, stop := target } }
  let s := (State.boundaries count s).raise .stopReached
  let s := if target = s.mem.header.terminus then s.terminate else s
  s.rewriteMirror

/-- ARRIVE (R126, R127). -/
def State.serveArrive (s : State) (n : Fin 32) : State :=
  match (stateRefusal s.table.service).or (s.arriveFault n) with
  | some r => s.refuseJourney n r
  | none =>
    let target := s.arriveTarget n
    let count := s.mem.boundaryCount (s.arrivePath target)
    ((s.take .journey n).arriveAt target).answerJourney n (Outcome.done, 0#8) count

/-! ### PASS (R128) -/

/-- Rows 5 and 6 of Table 7-1 for a PASS. It is refused where the stop ahead is the terminus, as R128 has it; R123's
"PASS moves only to a section whose next stop is not the terminus", read of the section moved to, would refuse the stop
before the terminus too (DESIGN CHOICE, log entry 24). -/
def State.passFault (s : State) : Option Reply :=
  let h := s.mem.header
  let next := h.next s.journey.stop
  if s.journey.kind ≠ .inSection then some (badRequest 0x04#8)
  else if next = h.terminus then some (badRequest 0x05#8)
  else if s.roundLimit (s.mem.boundaryCount [next]) then some (badRequest 0x09#8)
  else none

/-- The effects of an accepted PASS but for its answer (R128). -/
def State.passNext (s : State) : State :=
  let next := s.mem.header.next s.journey.stop
  let count := s.mem.boundaryCount [next]
  (State.boundaries count { s with journey := { s.journey with stop := next } }).rewriteMirror

/-- PASS (R128). -/
def State.servePass (s : State) (n : Fin 32) : State :=
  match (stateRefusal s.table.service).or s.passFault with
  | some r => s.refuseJourney n r
  | none =>
    ((s.take .journey n).passNext).answerJourney n (Outcome.done, 0#8)
      (s.mem.boundaryCount [s.mem.header.next s.journey.stop])

/-! ### SET (R129) -/

/-- The stop and kind an accepted SET places the train at, or the row of Table 7-1 that refuses it. -/
def State.setTarget (s : State) (n : Fin 32) : Except Reply (Nat × PosKind) :=
  let h := s.mem.header
  match s.journeyStop n, s.journeyKind n with
  | some i, kind =>
    if h.stops ≤ i then .error (badRequest 0x02#8)
    else
      match kind with
      | none => .error (badRequest 0x07#8)
      | some k =>
        if k = .inSection ∧ i = h.terminus then .error (badRequest 0x08#8) else .ok (i, k)
  | none, _ => .error (badRequest 0x06#8)

/-- The effects of an accepted SET but for its answer (R129). -/
def State.setPosition (s : State) (stop : Nat) (kind : PosKind) : State :=
  let s := { s with journey := { s.journey with kind := kind, stop := stop } }
  let s := if kind = .atStop ∧ stop = s.mem.header.terminus then s.terminate else s
  s.rewriteMirror

/-- SET (R129). -/
def State.serveSet (s : State) (n : Fin 32) : State :=
  match stateRefusal s.table.service, s.setTarget n with
  | some r, _ => s.refuseJourney n r
  | none, .error r => s.refuseJourney n r
  | none, .ok (stop, kind) =>
    ((s.take .journey n).setPosition stop kind).answerJourney n (Outcome.done, 0#8) 0

/-! ### A JOURNEY request with no event (R124) -/

/-- Rows 1 to 3 of Table 7-1 for an event that is not 1 to 4. -/
def State.serveBadEvent (s : State) (n : Fin 32) : State :=
  s.refuseJourney n ((stateRefusal s.table.service).getD (badRequest 0x01#8))

/-! ### CLOCK-SET (R70 to R72) -/

/-- The time a CLOCK-SET body asks for (Table 12-5). -/
structure ClockRequest where
  day : Nat
  minute : Nat
  second : Nat
deriving DecidableEq, Repr

/-- The body of a CLOCK-SET cell. -/
def State.clockRequest (s : State) (n : Fin 32) : ClockRequest where
  day := s.cellWord n 8
  minute := s.cellWord n 10
  second := (s.cellByte n 12).toNat

/-- The magnitude of the difference of two counts. -/
def distance (a b : Nat) : Nat :=
  (a - b) + (b - a)

/-- The trim limit refuses the step (R71). -/
def State.stepTooLarge (s : State) (r : ClockRequest) : Bool :=
  decide (s.table.service ≠ .noService) && s.clock.valid &&
    decide (Config.trimLimit <
      distance (absSecond s.clock.day s.clock.minute s.clock.second) (absSecond r.day r.minute r.second))

/-- The outcome of a CLOCK-SET: none when it is accepted (R70, R71). -/
def State.clockSetFault (s : State) (r : ClockRequest) : Option Reply :=
  if 1439 < r.minute then some (badRequest 0x01#8)
  else if 59 < r.second then some (badRequest 0x02#8)
  else if s.stepTooLarge r then some (Outcome.stepTooLarge, 0#8)
  else none

/-- The answer of a CLOCK-SET: the clock as it stood at the take (R70, Table 12-5). -/
def Clock.setAnswer (c : Clock) (r : Reply) (dayChange : Bool) : List Byte :=
  [r.1, r.2] ++ le16 c.day ++ le16 c.minute ++ [byteOf c.second, flagByte c.valid, flagByte dayChange]

/-- The effects of an accepted CLOCK-SET but for its answer (R72). -/
def State.setClock (s : State) (r : ClockRequest) : State :=
  let forward := decide (s.clock.day < r.day)
  let s := { s with clock :=
    { day := r.day, minute := r.minute, second := r.second, subSecond := 0, valid := true, timebase := .running,
      lossTimer := true } }
  let s := if forward then s.dayChanged r.day else s
  s.rewriteMirror

/-- CLOCK-SET (R70 to R72). -/
def State.serveClockSet (s : State) (n : Fin 32) : State :=
  let r := s.clockRequest n
  match s.clockSetFault r with
  | some reply => (s.take .journey n).post n (s.clock.setAnswer reply false)
  | none =>
    ((s.take .journey n).setClock r).post n
      (s.clock.setAnswer (Outcome.done, 0#8) (decide (s.clock.day < r.day)))

end Sys2Proof.Machine
end

