-- ==== Sys2Proof/Machine/EngineCommands.lean ====
section
/-! DEFINITION. The meanings of the commands that are steps of the engine's own blocks. An event whose conditions do
not hold does not come about: the state stays as it stands (log entry 2). A command that completes work of a shared
unit finds it begun, or begins it where the unit is free and chooses it, and each event ends with the free units'
beginning of what waits. Only a job that the table unit asks for and the edit that follows an edit wait for the next
event, and a sweep step for its own moment (log entry 9). -/

namespace Sys2Proof.Machine

/-- An event that does not come about leaves the state as it stands. -/
def State.noEvent (s : State) : Host.Outcome State Fault Refusal :=
  .next s

/-! ### The clock (chapter 4) -/

/-- CLK32_EDGE (R66, R68). -/
def execClk32Edge (s : State) : Host.Outcome State Fault Refusal :=
  s.clockEdge.event

/-- SECOND_ADVANCE (R66): the edge that brings the sub-second count to 32,768. -/
def execSecondAdvance (s : State) : Host.Outcome State Fault Refusal :=
  if s.secondDue then s.clockEdge.event else s.noEvent

/-- LOSS_TIMER_EXPIRY (R68). -/
def execLossTimerExpiry (s : State) : Host.Outcome State Fault Refusal :=
  if s.clock.timebase = .running ∧ s.clock.lossTimer = true then s.loseClock.event else s.noEvent

/-! ### The verdict engine (chapter 2) -/

/-- INSPECT (R15 to R20). -/
def execInspect (s : State) : Host.Outcome State Fault Refusal :=
  match s.intake.inspection with
  | [] => s.noEvent
  | n :: _ => if s.mayInspect then ((s.take .inspection n).beginInspection n).event else s.noEvent

/-- INSPECT_COMPLETION (R33). -/
def execInspectCompletion (s : State) : Host.Outcome State Fault Refusal :=
  match s.engine.flight with
  | none => s.noEvent
  | some f =>
    match f.stage with
    | .judged v => (s.completeInspection f v).event
    | .integrity | .deny | .composing _ => s.noEvent

/-! ### The check unit (chapter 9) -/

/-- CHECK_JOB_END (R163). The table unit's next job waits for the next event (log entry 9). -/
def execCheckJobEnd (s : State) : Host.Outcome State Fault Refusal :=
  if s.check.choose.jobEndDue then s.chooseCheck.endJob.advanceDeny.asking else s.noEvent

/-- CHECK_PIECE_END (R164). -/
def execCheckPieceEnd (s : State) : Host.Outcome State Fault Refusal :=
  if s.check.choose.pieceEndDue then s.chooseCheck.endPiece.event else s.noEvent

/-! ### The deny list unit (chapter 6) -/

/-- DENY_LOOKUP (R103 to R105): the lookup in service completes. The operand says whose it is where both requesters'
waited when the unit chose (log entry 21). -/
def execDenyLookup (who : LookupRequester) (s : State) : Host.Outcome State Fault Refusal :=
  match s.deny.serves who, who, s.deny.engineLookup, s.deny.probeLookup with
  | true, .verdictEngine, some (media, day), _ => (s.serveEngineLookup media day).event
  | true, .tableUnit, _, some media => (s.serveProbe media).event
  | _, _, _, _ => s.noEvent

/-- ADD (R111, R113). The batch's next edit waits for the next event (R106, log entry 9). -/
def execAdd (s : State) : Host.Outcome State Fault Refusal :=
  match s.servedEdit with
  | some (.add media reason expiry) => (s.applyAdd media reason expiry).chooseCheck.beginLookup.asking
  | _ => s.noEvent

/-- DELETE (R112). The batch's next edit waits for the next event (R106, log entry 9). -/
def execDelete (s : State) : Host.Outcome State Fault Refusal :=
  match s.servedEdit with
  | some (.delete media) => (s.applyDelete media).chooseCheck.beginLookup.asking
  | _ => s.noEvent

/-- CLEAR (R112). The batch's next edit waits for the next event (R106, log entry 9). -/
def execClear (s : State) : Host.Outcome State Fault Refusal :=
  match s.servedEdit with
  | some .clear => s.applyClear.chooseCheck.beginLookup.asking
  | _ => s.noEvent

/-- SWEEP_STEP (R119). -/
def execSweepStep (s : State) : Host.Outcome State Fault Refusal :=
  if s.deny.choose.serving = some .sweepStep then s.applySweepStep.event else s.noEvent

/-! ### The journey unit (chapters 4 and 7) -/

/-- DEPART (R125). -/
def execDepart (s : State) : Host.Outcome State Fault Refusal :=
  match s.eventHead 1#8 with
  | some n => (s.serveDepart n).event
  | none => s.noEvent

/-- ARRIVE (R126, R127). -/
def execArrive (s : State) : Host.Outcome State Fault Refusal :=
  match s.eventHead 2#8 with
  | some n => (s.serveArrive n).event
  | none => s.noEvent

/-- PASS (R128). -/
def execPass (s : State) : Host.Outcome State Fault Refusal :=
  match s.eventHead 3#8 with
  | some n => (s.servePass n).event
  | none => s.noEvent

/-- SET (R129). -/
def execSet (s : State) : Host.Outcome State Fault Refusal :=
  match s.eventHead 4#8 with
  | some n => (s.serveSet n).event
  | none => s.noEvent

/-- JOURNEY_BAD_EVENT (R124). -/
def execJourneyBadEvent (s : State) : Host.Outcome State Fault Refusal :=
  match s.badEventHead with
  | some n => (s.serveBadEvent n).event
  | none => s.noEvent

/-- CLOCK_SET (R70 to R72). -/
def execClockSet (s : State) : Host.Outcome State Fault Refusal :=
  match s.journeyHead .clockSet with
  | some n => (s.serveClockSet n).event
  | none => s.noEvent

/-! ### The table unit (chapters 6 and 8) -/

/-- SERVICE_OPEN (R149). The check of table 1 waits for the next event (R165, log entry 9). -/
def execServiceOpen (s : State) : Host.Outcome State Fault Refusal :=
  match s.tableHead .serviceOpen with
  | some n => (s.chooseCheck.takeOpen n).advanceDeny.asking
  | none => s.noEvent

/-- SERVICE_OPEN_COMPLETION (R153). -/
def execServiceOpenCompletion (s : State) : Host.Outcome State Fault Refusal :=
  match s.table.held with
  | some (n, .serviceOpen _ _ true) => (s.completeOpen n).event
  | _ => s.noEvent

/-- SERVICE_CLOSE (R156). -/
def execServiceClose (s : State) : Host.Outcome State Fault Refusal :=
  match s.tableHead .serviceClose with
  | some n => (s.takeClose n).event
  | none => s.noEvent

/-- SERVICE_CLOSE_COMPLETION (R157). -/
def execServiceCloseCompletion (s : State) : Host.Outcome State Fault Refusal :=
  match s.table.held with
  | some (n, .serviceClose) => if s.engine.flight.isNone then (s.completeClose n).event else s.noEvent
  | _ => s.noEvent

/-- DENY_BATCH (R107). The batch check waits for the next event (R165, log entry 9). -/
def execDenyBatch (s : State) : Host.Outcome State Fault Refusal :=
  match s.tableHead .denyBatch with
  | some n => (s.chooseCheck.takeBatch n).advanceDeny.asking
  | none => s.noEvent

/-- DENY_PROBE (R116). -/
def execDenyProbe (s : State) : Host.Outcome State Fault Refusal :=
  match s.tableHead .denyProbe with
  | some n => (s.takeProbe n).event
  | none => s.noEvent

end Sys2Proof.Machine
end

