-- ==== Sys2Proof/Machine/Dispatch.lean ====
section
/-! DEFINITION. One arm per command, in the order of spec/opcode_table.json. -/

namespace Sys2Proof.Machine

/-- The effect of a command on everything but the queue of waiting commands. -/
def exec (i : Instr) (s : State) : Host.Outcome State Fault Refusal :=
  match i with
  | .powerOn => Sys2Proof.Machine.execPowerOn s
  | .engineReset data lanes => Sys2Proof.Machine.execEngineReset data lanes s
  | .answerMode data lanes => Sys2Proof.Machine.execAnswerMode data lanes s
  | .watermark data lanes => Sys2Proof.Machine.execWatermark data lanes s
  | .journeyFirst data lanes => Sys2Proof.Machine.execJourneyFirst data lanes s
  | .rearm data lanes => Sys2Proof.Machine.execRearm data lanes s
  | .eventFlagsClear data lanes => Sys2Proof.Machine.execEventFlagsClear data lanes s
  | .eventEnableWrite data lanes => Sys2Proof.Machine.execEventEnableWrite data lanes s
  | .registerWriteIgnored reg data lanes => Sys2Proof.Machine.execRegisterWriteIgnored reg data lanes s
  | .mirrorWord0Read lanes => Sys2Proof.Machine.execMirrorWord0Read lanes s
  | .hostWrite addr data lanes => Sys2Proof.Machine.execHostWrite addr data lanes s
  | .arrival cell kind => Sys2Proof.Machine.execArrival cell kind s
  | .withdrawal cell => Sys2Proof.Machine.execWithdrawal cell s
  | .release cell => Sys2Proof.Machine.execRelease cell s
  | .clk32Edge => Sys2Proof.Machine.execClk32Edge s
  | .secondAdvance => Sys2Proof.Machine.execSecondAdvance s
  | .lossTimerExpiry => Sys2Proof.Machine.execLossTimerExpiry s
  | .inspect => Sys2Proof.Machine.execInspect s
  | .checkJobEnd => Sys2Proof.Machine.execCheckJobEnd s
  | .checkPieceEnd => Sys2Proof.Machine.execCheckPieceEnd s
  | .denyLookup who => Sys2Proof.Machine.execDenyLookup who s
  | .inspectCompletion => Sys2Proof.Machine.execInspectCompletion s
  | .depart => Sys2Proof.Machine.execDepart s
  | .arrive => Sys2Proof.Machine.execArrive s
  | .pass => Sys2Proof.Machine.execPass s
  | .set => Sys2Proof.Machine.execSet s
  | .clockSet => Sys2Proof.Machine.execClockSet s
  | .serviceOpen => Sys2Proof.Machine.execServiceOpen s
  | .serviceOpenCompletion => Sys2Proof.Machine.execServiceOpenCompletion s
  | .serviceClose => Sys2Proof.Machine.execServiceClose s
  | .serviceCloseCompletion => Sys2Proof.Machine.execServiceCloseCompletion s
  | .denyBatch => Sys2Proof.Machine.execDenyBatch s
  | .add => Sys2Proof.Machine.execAdd s
  | .delete => Sys2Proof.Machine.execDelete s
  | .clear => Sys2Proof.Machine.execClear s
  | .denyProbe => Sys2Proof.Machine.execDenyProbe s
  | .sweepStep => Sys2Proof.Machine.execSweepStep s
  | .journeyBadEvent => Sys2Proof.Machine.execJourneyBadEvent s

end Sys2Proof.Machine
end

