-- ==== Sys2Proof/Safety.lean ====
section
/-! DEFINITION. What a sound state is: the invariants the chapters state of the machine as a whole, in the terms the
claims use. Each is a conjunction a step must keep. -/

/-- A host write to ENG_CONTROL carries ENGINE_RESET 1 in the low lane (R185, R196). -/
def Sys2Proof.resetWrite (data : Word) (lanes : Lanes) : Bool :=
  lanes.low && data.getLsbD 0

/-- The command resets the engine: POWER_ON, or a write of ENGINE_RESET 1 under any name (R184, R185). -/
def Sys2Proof.Instr.resets : Instr → Bool
  | .powerOn => true
  | .engineReset data lanes => resetWrite data lanes
  | .answerMode data lanes => resetWrite data lanes
  | .watermark data lanes => resetWrite data lanes
  | .journeyFirst data lanes => resetWrite data lanes
  | .rearm data lanes => resetWrite data lanes
  | .hostWrite addr data lanes =>
    decide (Machine.evenAddress addr = Config.engControlAddr) && resetWrite data lanes
  | .eventFlagsClear _ _ | .eventEnableWrite _ _ | .registerWriteIgnored _ _ _ | .mirrorWord0Read _ | .arrival _ _
  | .withdrawal _ | .release _ | .clk32Edge | .secondAdvance | .lossTimerExpiry | .inspect | .checkJobEnd
  | .checkPieceEnd | .denyLookup _ | .inspectCompletion | .depart | .arrive | .pass | .set | .clockSet | .serviceOpen
  | .serviceOpenCompletion | .serviceClose | .serviceCloseCompletion | .denyBatch | .add | .delete | .clear
  | .denyProbe | .sweepStep | .journeyBadEvent => false

/-- The command writes EVENT_FLAGS with a bit set, under either name (R188). -/
def Sys2Proof.Instr.clearsFlag (n : Nat) : Instr → Bool
  | .eventFlagsClear data lanes => (Machine.laneFlags data lanes).getLsbD n
  | .hostWrite addr data lanes =>
    decide (Machine.evenAddress addr = Config.eventFlagsAddr) && (Machine.laneFlags data lanes).getLsbD n
  | .powerOn | .engineReset _ _ | .answerMode _ _ | .watermark _ _ | .journeyFirst _ _ | .rearm _ _
  | .eventEnableWrite _ _ | .registerWriteIgnored _ _ _ | .mirrorWord0Read _ | .arrival _ _
  | .withdrawal _ | .release _ | .clk32Edge | .secondAdvance | .lossTimerExpiry | .inspect | .checkJobEnd
  | .checkPieceEnd | .denyLookup _ | .inspectCompletion | .depart | .arrive | .pass | .set | .clockSet | .serviceOpen
  | .serviceOpenCompletion | .serviceClose | .serviceCloseCompletion | .denyBatch | .add | .delete | .clear
  | .denyProbe | .sweepStep | .journeyBadEvent => false

/-- The command writes the state byte of a cell (R173). -/
def Sys2Proof.Instr.writesStateByte : Instr → Bool
  | .arrival _ _ | .withdrawal _ | .release _ => true
  | .hostWrite addr _ lanes =>
    lanes.low && decide (Machine.evenAddress addr < Config.mirrorBase ∧ Machine.evenAddress addr % Config.cellSize = 0)
  | .powerOn | .engineReset _ _ | .answerMode _ _ | .watermark _ _ | .journeyFirst _ _ | .rearm _ _
  | .eventFlagsClear _ _ | .eventEnableWrite _ _ | .registerWriteIgnored _ _ _ | .mirrorWord0Read _ | .clk32Edge
  | .secondAdvance | .lossTimerExpiry | .inspect | .checkJobEnd | .checkPieceEnd | .denyLookup _ | .inspectCompletion
  | .depart | .arrive | .pass | .set | .clockSet | .serviceOpen | .serviceOpenCompletion | .serviceClose
  | .serviceCloseCompletion | .denyBatch | .add | .delete | .clear | .denyProbe | .sweepStep | .journeyBadEvent => false

namespace Sys2Proof.Machine

/-! ### Memory and cells -/

/-- Exchange memory is in its canonical form. -/
abbrev State.memoryCanonical (s : State) : Prop :=
  s.mem.wf = true

/-- Every state byte holds the value of one of the four states (R171). -/
abbrev State.cellBytesLegal (s : State) : Prop :=
  ∀ n : Fin 32, (s.mem.read (cellBase n)).toNat ≤ 3

/-- An index stands in an intake queue exactly when its cell is READY with a kind of that queue, and then once
(R176). -/
abbrev State.queueExact (s : State) (q : QueueId) : Prop :=
  (s.intake.queue q).Nodup ∧
    ∀ n : Fin 32, n ∈ s.intake.queue q ↔
      s.cellState n = .ready ∧ (s.kindOf n).map RequestKind.queue = some q

/-- The three intake queues are exact (R176). -/
abbrev State.queuesExact (s : State) : Prop :=
  s.queueExact .inspection ∧ s.queueExact .journey ∧ s.queueExact .table

/-- The kind of request a task serves. -/
def TableTask.kind : TableTask → RequestKind
  | .serviceOpen _ _ _ => .serviceOpen
  | .serviceClose => .serviceClose
  | .denyBatch _ _ _ _ => .denyBatch
  | .denyProbe => .denyProbe

/-- The cell the verdict engine holds. -/
def State.engineCell (s : State) : Option (Fin 32) :=
  s.engine.flight.map Flight.cell

/-- The cell the table unit holds. -/
def State.tableCell (s : State) : Option (Fin 32) :=
  s.table.held.map Prod.fst

/-- A cell is TAKEN exactly while the verdict engine or the table unit holds it, and each holds cells of its own
kinds (R179). -/
abbrev State.takenHeld (s : State) : Prop :=
  (∀ n : Fin 32, s.cellState n = .taken ↔ s.engineCell = some n ∨ s.tableCell = some n) ∧
    (∀ n : Fin 32, s.engineCell = some n → s.kindOf n = some .inspect) ∧
    (∀ h ∈ s.table.held, s.kindOf h.1 = some h.2.kind)

/-- How many cells are in a state, of the arrival kinds that `p` admits. -/
def State.countCells (s : State) (c : CellState) (p : Option RequestKind → Bool := fun _ => true) : Nat :=
  (List.finRange 32).countP fun n => decide (s.cellState n = c) && p (s.kindOf n)

/-- The notice unit's four counts are the counts of the cells (R181). -/
abbrev State.countsExact (s : State) : Prop :=
  s.notice.readyCount = s.countCells .ready ∧ s.notice.doneCount = s.countCells .done ∧
    s.notice.inspectDone = s.countCells .done (fun k => decide (k = some .inspect)) ∧
    s.notice.otherDone = s.countCells .done (fun k => decide (k ≠ some .inspect))

/-! ### The notice unit -/

/-- NOTE_N is low exactly while a cause is pending (R194). -/
abbrev State.noteAgrees (s : State) : Prop :=
  s.notice.noteN = !s.anyPending

/-- FIRST_FAULT is set exactly while the capture is HELD (R135). -/
abbrev State.captureAgrees (s : State) : Prop :=
  s.flag .firstFault = s.journey.capture.isSome

/-! ### The clock -/

/-- The second, minute, day and sub-second count lie in their ranges (R65). -/
abbrev State.clockInRange (s : State) : Prop :=
  s.clock.second ≤ 59 ∧ s.clock.minute ≤ 1439 ∧ s.clock.day ≤ Config.wordMax ∧
    s.clock.subSecond < Config.edgesPerSecond

/-- The loss timer runs exactly in RUNNING (R68), and no clock is valid without a timebase that has been driven. -/
abbrev State.timebaseSound (s : State) : Prop :=
  s.clock.lossTimer = decide (s.clock.timebase = .running) ∧ (s.clock.valid = true → s.clock.timebase = .running)

/-! ### The lists -/

/-- At most 256 entries, no two with the same media ID (R83). -/
abbrev State.roundListSound (s : State) : Prop :=
  s.rounds.length ≤ Config.roundListSize ∧ (s.rounds.map RoundEntry.mediaId).Nodup

/-- At most 4,096 entries in strictly ascending order of media ID (R101). -/
abbrev State.denyListSound (s : State) : Prop :=
  s.deny.list.length ≤ Config.denyListSize ∧ (s.deny.list.map DenyEntry.mediaId).Pairwise (· < ·)

/-- The counter holds 0 to 255 (R14). -/
abbrev State.counterInRange (s : State) : Prop :=
  s.engine.counter ≤ 255 ∧ ∀ f ∈ s.engine.flight, f.sequence ≤ 255

/-! ### The mirror -/

/-- The mirror's 64 bytes show the state of the other blocks (R139). -/
abbrev State.mirrorShows (s : State) : Prop :=
  s.mem.readList Config.mirrorBase Config.mirrorSize = s.mirrorImage

/-! ### The journey and the service state -/

/-- The position, round and service day have the form the service state gives them (R75, R122, R123, R132). -/
abbrev State.journeyForm (s : State) : Prop :=
  s.journey.round ≤ Config.wordMax ∧
    (match s.table.service with
      | .noService | .checking =>
        s.journey.kind = .nowhere ∧ s.journey.stop = 0 ∧ s.journey.round = 0 ∧ s.journey.serviceDay = 0
      | .inService =>
        s.journey.kind ≠ .nowhere ∧ s.journey.stop < s.mem.header.stops ∧
          s.journey.stop ≠ s.mem.header.terminus ∧ 1 ≤ s.journey.round
      | .terminated =>
        s.journey.kind = .atStop ∧ s.journey.stop = s.mem.header.terminus ∧ 1 ≤ s.journey.round)

/-- What the table unit holds fits the service state: an open in hand exactly in CHECKING, its origin legal once
every check has passed, and a waiting close only under an open service (R147, R149, R151, R156). -/
abbrev State.taskFits (s : State) : Prop :=
  match s.table.held with
  | some (_, .serviceOpen _ _ passed) =>
    s.table.service = .checking ∧
      (passed = true → s.mem.header.origin < s.mem.header.stops ∧ s.mem.header.origin ≠ s.mem.header.terminus)
  | some (_, .serviceClose) => s.table.service.isOpen = true
  | some (_, .denyBatch _ _ _ _) | some (_, .denyProbe) | none => s.table.service ≠ .checking

/-- The journey and the table unit fit the service state (R122, R123, R147). -/
abbrev State.serviceSound (s : State) : Prop :=
  s.journeyForm ∧ s.taskFits

/-! ### Work in hand -/

/-- The verdict engine has a job with the check unit exactly while its inspection waits for one, and a lookup at the
deny list unit exactly while it waits for one (R20, R22, R30). -/
abbrev State.engineLinked (s : State) : Prop :=
  (s.check.engineJob.isSome = match s.engine.flight.map Flight.stage with
    | some .integrity | some (.composing _) => true
    | some .deny | some (.judged _) | none => false) ∧
  (s.deny.engineLookup.isSome = match s.engine.flight.map Flight.stage with
    | some .deny => true
    | some .integrity | some (.composing _) | some (.judged _) | none => false)

/-- The table unit has a check job, an edit or a lookup with the other units exactly while its cell waits for one
(R109, R110, R116, R150). -/
abbrev State.tableLinked (s : State) : Prop :=
  (s.check.tableJob.isSome = match s.table.held with
    | some (_, .serviceOpen _ _ false) | some (_, .denyBatch _ _ _ false) => true
    | some (_, .serviceOpen _ _ true) | some (_, .denyBatch _ _ _ true) | some (_, .serviceClose)
    | some (_, .denyProbe) | none => false) ∧
  (s.deny.edit.isSome = match s.table.held with
    | some (_, .denyBatch _ _ _ true) => true
    | some (_, .serviceOpen _ _ _) | some (_, .denyBatch _ _ _ false) | some (_, .serviceClose)
    | some (_, .denyProbe) | none => false) ∧
  (s.deny.probeLookup.isSome = match s.table.held with
    | some (_, .denyProbe) => true
    | some (_, .serviceOpen _ _ _) | some (_, .denyBatch _ _ _ _) | some (_, .serviceClose) | none => false)

/-- The check unit serves work that is there, suspends a table-unit job for no other reason than to serve the verdict
engine's, and leaves no job of the verdict engine waiting while idle (R164, R165). -/
abbrev CheckUnit.busy (u : CheckUnit) : Prop :=
  match u.serving.map CheckService.owner with
  | none => u.engineJob = none ∧ ∀ j ∈ u.tableJob, j.position = 0 ∧ j.remainder = checkPreset
  | some .verdictEngine => u.engineJob.isSome = true
  | some .tableUnit => u.tableJob.isSome = true

/-- The deny list unit serves work that is there, an edit never beside a sweep, and a DAY_CHANGE waits only for the
operation in service (R105, R106). -/
abbrev DenyUnit.busy (u : DenyUnit) : Prop :=
  match u.serving with
  | none => u.dayWaiting = none
  | some (.lookup none) => u.engineLookup.isSome && u.probeLookup.isSome
  | some (.lookup (some .verdictEngine)) => u.engineLookup.isSome
  | some (.lookup (some .tableUnit)) => u.probeLookup.isSome
  | some .sweepStep => u.sweep.isSome = true
  | some .edit => u.edit.isSome = true ∧ u.sweep = none

/-- Every operation in hand is with the unit that carries it on. -/
abbrev State.workLinked (s : State) : Prop :=
  s.engineLinked ∧ s.tableLinked ∧ s.check.busy ∧ s.deny.busy

/-- Nothing is inspected, and no inspection is remembered, without a service: the round list is empty in NO_SERVICE
and CHECKING (R83), and an inspection under way there is one answered NO_SERVICE (R15, R17, R41). -/
abbrev State.inspectionsFit (s : State) : Prop :=
  s.table.service.isOpen = true ∨
    s.rounds = [] ∧ ∀ f ∈ s.engine.flight, f.stage = .judged .noService

/-- The table-unit job in hand covers what its cell asked for, has taken whole pieces and not the last, and holds
the remainder of the bytes taken; a piece of it in service goes on from that remainder (R150, R109, R162, R164). -/
abbrev State.tableJobSound (s : State) : Prop :=
  ∀ j ∈ s.check.tableJob,
    (match s.table.held with
      | some (_, .serviceOpen table _ _) => 1 ≤ table ∧ table ≤ 5 ∧ (j.base, j.length) = Config.tableExtent table
      | some (_, .denyBatch offset count _ _) =>
        Config.bulkBase ≤ offset ∧ (j.base, j.length) = (offset, batchLength count)
      | some (_, .serviceClose) | some (_, .denyProbe) | none => False) ∧
    j.position < j.length ∧ j.position % Config.pieceSize = 0 ∧
    j.remainder = checkOf (s.mem.readList j.base j.position) ∧
    ∀ w ∈ s.check.serving, w.owner = .tableUnit → w.remainder = j.remainder

/-! ### What a claim says of the state before and the state after -/

/-- The address lies in the journey mirror. -/
abbrev inMirror (a : Nat) : Prop :=
  Config.mirrorBase ≤ a ∧ a < Config.scratchBase

/-- The address lies in the answer of a cell. -/
abbrev inAnswer (n : Fin 32) (a : Nat) : Prop :=
  cellBase n + Config.answerOffset ≤ a ∧ a < cellBase n + Config.cellSize

/-- The address lies in the body of a cell. -/
abbrev inBody (n : Fin 32) (a : Nat) : Prop :=
  cellBase n + Config.bodyOffset ≤ a ∧ a < cellBase n + Config.answerOffset

/-- Every byte of memory but those the addresses admitted by `p` name reads in `t` as in `s`. -/
def State.sameBytesBut (s t : State) (p : Nat → Prop) : Prop :=
  ∀ a, ¬ p a → t.mem.read a = s.mem.read a

/-- A cell is DONE and its 24 answer bytes are those of a list, 0 beyond its end (R180, R198). -/
def State.answers (t : State) (n : Fin 32) (answer : List Byte) : Prop :=
  t.cellState n = .done ∧
    ∀ i, i < Config.answerSize → t.cellByte n (Config.answerOffset + i) = answer.getD i 0#8

/-- The notice unit with the counts and the NOTE_N level of another: what is said of it when an event changes no
register, no flag and not the FIRST latch. The counts are those of `State.countsExact`, the level that of
`State.noteAgrees`. -/
def NoticeUnit.withCounts (u v : NoticeUnit) : NoticeUnit :=
  { u with readyCount := v.readyCount, doneCount := v.doneCount, inspectDone := v.inspectDone,
           otherDone := v.otherDone, noteN := v.noteN }

/-- The nine event flags of `t` are those of `s`, but for the flags listed. -/
def State.sameFlagsBut (s t : State) (l : List EventFlag) : Prop :=
  ∀ f, f ∉ l → t.flag f = s.flag f

/-- The state with NOTE_N driven and nothing else changed. -/
abbrev State.onlyNote (s : State) : State :=
  { s with notice := { s.notice with noteN := !s.anyPending } }

/-- The bits of a run in the order the check unit takes them (R160). -/
def bitsOf (bs : List Byte) : List Bool :=
  bs.flatMap fun b => [7, 6, 5, 4, 3, 2, 1, 0].map fun i => b.getLsbD i

/-! ### More of what a sound state is -/

/-- The sweep position is the media ID of an entry of the list (R118). -/
abbrev State.sweepSound (s : State) : Prop :=
  ∀ w ∈ s.deny.sweep, w.position ∈ s.deny.list.map DenyEntry.mediaId

/-- No value of the answer but T and the detail is formed: each stands at what an answer without it carries (R17,
R20). -/
abbrev Flight.unformed (f : Flight) : Prop :=
  f.coveredCount = 0 ∧ f.rideDue = false ∧ f.grace = false ∧ f.timeUnchecked = false ∧ f.denyReason = 0 ∧
    f.presented = 0 ∧ f.storedAmount = 0 ∧ f.image = none ∧ f.consumed = false ∧ f.sequence = 0

/-- The image of an inspection under way: nothing formed before the verdict, the image whose check word is being computed while
it is composed, and a whole image with a mark sequence and a residue of 0000h from then on (R14, R30, R95). -/
abbrev State.imageFits (s : State) (f : Flight) : Prop :=
  match f.stage with
  | .integrity | .deny => f.unformed
  | .composing _ => f.image.isSome ∧
      ∀ img ∈ f.image, img.length = 32 ∧ imageByte img 29 ≠ 0#8 ∧ s.check.engineJob = some (img.take 30)
  | .judged _ => ∀ img ∈ f.image, img.length = 32 ∧ imageByte img 29 ≠ 0#8 ∧ checkOf img = 0#16

/-- Every write-back image is whole, and every sequence is one a mark can carry (R93, R95). -/
abbrev State.imagesSound (s : State) : Prop :=
  s.counterInRange ∧ (∀ e ∈ s.rounds, e.sequence ≤ 255) ∧
    (∀ w ∈ s.check.serving, w.owner = .verdictEngine → w.remainder = checkPreset) ∧
    ∀ f ∈ s.engine.flight, s.imageFits f

end Sys2Proof.Machine
end

