-- ==== Sys2Proof/Certificates/Slice0/Obligations.lean ====
section
/-! DEFINITION. The statements for the provers. In each, `t` is the state after one command; a field that the equation
for `t` does not name is unchanged, and so is every byte of memory that `sameBytesBut` does not name. `s.settled` is `s`
but for one thing: a shared unit that was free has begun the work that waited for it, a sweep step apart, which is part
of every event (R105, R164; log entry 9). -/

open Sys2Proof Sys2Proof.Machine

/-! ### The queue of commands, power-on and reset -/

/-- A step takes the command at the front of the queue and runs it on the queue's rest. With no command waiting, each of
the two shared units that is free begins the work waiting for it, in the order of R105 and R164, and nothing else
changes. That a step with no command waiting begins that work is the model's choice (log entries 3 and 9). -/
def Obligations.StepRunsFrontCommand : Prop :=
  (∀ (c : Instr) (rest : List Instr) (s : State),
    step { s with pending := c :: rest } = exec c { s with pending := rest }) ∧
  ∀ s : State, s.pending = [] → step s = .next { s with
    check := { s.check with serving :=
      if s.check.serving.isSome then s.check.serving
      else if s.check.engineJob.isSome then some { owner := .verdictEngine, remainder := 0xFFFF#16 }
      else s.check.tableJob.map fun j => { owner := .tableUnit, remainder := j.remainder } }
    deny := { s.deny with serving :=
      if s.deny.serving.isSome then s.deny.serving
      else if s.deny.engineLookup.isSome && s.deny.probeLookup.isSome then some (.lookup none)
      else if s.deny.engineLookup.isSome then some (.lookup (some .verdictEngine))
      else if s.deny.probeLookup.isSome then some (.lookup (some .tableUnit))
      else if s.deny.sweep.isSome then some .sweepStep
      else if s.deny.edit.isSome then some .edit
      else none } }

/-- Every command completes in every state, and none touches the queue of waiting commands. Both are the model's: a
command whose conditions do not hold completes too, leaving the state as it stands (log entry 2), the queue is no state
of the hardware, and POWER_ON keeps it (log entry 14). What each command does is for the statements below. -/
def Obligations.EveryCommandCompletesKeepingQueue : Prop :=
  ∀ (c : Instr) (s : State), ∃ t, exec c s = .next t ∧ t.pending = s.pending

/-- POWER_ON leaves every block and every register at its power-on value, whatever stood before (R184 and the
power-on sentence of each chapter; the word on D[15:0] is the model's choice, log entry 1, and is not stated). -/
def Obligations.PowerOnClearsEverything : Prop :=
  ∀ s : State, ∃ t, exec .powerOn s = .next t ∧
    (∀ a, t.mem.read a = 0#8) ∧
    (∀ n : Fin 32, t.cellState n = .empty ∧ t.intake.arrivalKind[n] = 0#8) ∧
    t.intake.inspection = [] ∧ t.intake.journey = [] ∧ t.intake.table = [] ∧
    t.engine = { flight := none, counter := 0 } ∧
    t.clock = { day := 0, minute := 0, second := 0, subSecond := 0, valid := false, timebase := .idle,
                lossTimer := false } ∧
    t.journey = { kind := .nowhere, stop := 0, round := 0, serviceDay := 0, capture := none, hold := none } ∧
    t.table = { service := .noService, held := none } ∧
    t.rounds = [] ∧
    t.deny = { list := [], sweep := none, dayWaiting := none, engineLookup := none, probeLookup := none,
               edit := none, serving := none } ∧
    t.check = { serving := none, engineJob := none, tableJob := none } ∧
    t.engStatus = 0x0000#16 ∧ t.engControl = 0x0004#16 ∧ t.noticeWord = 0x0000#16 ∧
    t.eventFlags = 0x0000#16 ∧ t.eventEnable = 0x01FF#16 ∧
    t.notice = { flags := 0#9, enable := 0x1FF#9, mode := .each, watermark := 0#3, journeyFirst := false,
                 latch := none, readyCount := 0, doneCount := 0, inspectDone := 0, otherDone := 0, noteN := true }

/-- The state after reset meets every invariant stated of the machine. -/
def Obligations.ResetMeetsInvariants : Prop :=
  State.reset.memoryCanonical ∧ State.reset.cellBytesLegal ∧ State.reset.queuesExact ∧ State.reset.takenHeld ∧
    State.reset.countsExact ∧ State.reset.noteAgrees ∧ State.reset.captureAgrees ∧ State.reset.clockInRange ∧
    State.reset.timebaseSound ∧ State.reset.roundListSound ∧ State.reset.denyListSound ∧ State.reset.sweepSound ∧
    State.reset.mirrorShows ∧ State.reset.serviceSound ∧ State.reset.workLinked ∧ State.reset.inspectionsFit ∧
    State.reset.tableJobSound ∧ State.reset.imagesSound

/-- ENGINE_RESET, part one: what each block holds after it. The clock, the deny list, EVENT_ENABLE and the arrival
kinds are kept, the fields of ENG_CONTROL are those of the write, and every other block stands as after power-on. That
the reset also discards a DAY_CHANGE which waits at the deny list unit is the model's reading (log entry 11). -/
def Obligations.EngineResetResetsBlocks : Prop :=
  ∀ (s : State) (data : Word) (lanes : Lanes), lanes.low = true → data.getLsbD 0 = true →
    ∃ t, exec (.engineReset data lanes) s = .next t ∧
      t = { s with
        mem := t.mem
        intake := { s.intake with
          inspection := t.intake.inspection, journey := t.intake.journey, table := t.intake.table }
        engine := { flight := none, counter := 0 }
        journey := { kind := .nowhere, stop := 0, round := 0, serviceDay := 0, capture := none, hold := none }
        table := { service := .noService, held := none }
        rounds := []
        deny := { s.deny with
          sweep := none, dayWaiting := none, engineLookup := none, probeLookup := none, edit := none,
          serving := none }
        check := { serving := none, engineJob := none, tableJob := none }
        notice := t.notice } ∧
      t.notice.flags = 0#9 ∧ t.notice.enable = s.notice.enable ∧ t.notice.latch = none ∧
      t.notice.watermark = data.extractLsb' 4 3 ∧ t.notice.journeyFirst = data.getLsbD 7 ∧
      (data.extractLsb' 1 2 = 3#2 → t.notice.mode = s.notice.mode) ∧
      (data.extractLsb' 1 2 ≠ 3#2 → t.notice.mode.code = (data.extractLsb' 1 2).toNat)

/-- ENGINE_RESET, part two: each TAKEN cell is DONE with the answer of Table 10-4; the three queues hold the READY
cells by arrival kind, lowest index at the head; every other byte of the cells, of the scratch area, of the context
region and of the bulk area is kept. -/
def Obligations.EngineResetAnswersCellsAndRebuildsQueues : Prop :=
  ∀ (s : State) (data : Word) (lanes : Lanes), s.memoryCanonical → lanes.low = true → data.getLsbD 0 = true →
    ∃ t, exec (.engineReset data lanes) s = .next t ∧
      (∀ n : Fin 32, s.cellState n = .taken → s.kindOf n ≠ some .denyBatch → t.answers n [0x42#8]) ∧
      (∀ (n : Fin 32) (offset count applied : Nat) (applying : Bool), s.cellState n = .taken →
        s.kindOf n = some .denyBatch → s.table.held = some (n, .denyBatch offset count applied applying) →
        t.answers n ([0x42#8, 0#8] ++ le16 applied ++ [0xFF#8, 0xFF#8] ++ le16 s.deny.list.length)) ∧
      (∀ q : QueueId, (t.intake.queue q).Pairwise (· < ·) ∧
        ∀ n : Fin 32, n ∈ t.intake.queue q ↔
          s.cellState n = .ready ∧ (s.kindOf n).map RequestKind.queue = some q) ∧
      s.sameBytesBut t (fun a => inMirror a ∨
        ∃ n : Fin 32, s.cellState n = .taken ∧ (a = cellBase n ∨ inAnswer n a))

/-! ### The notice unit and the registers -/

/-- ANSWER_MODE, WATERMARK, JOURNEY_FIRST and REARM are one write, taken field by field in the low lane (log
entry 4): the value 3 leaves the mode, a change of the mode or a REARM of 1 arms the latch, and without the low lane
nothing is written. -/
def Obligations.ControlWriteTakesFields : Prop :=
  ∀ (s : State) (data : Word) (lanes : Lanes) (c : Instr), data.getLsbD 0 = false →
    c = .answerMode data lanes ∨ c = .watermark data lanes ∨ c = .journeyFirst data lanes ∨ c = .rearm data lanes →
    (lanes.low = true → ∃ t mode, exec c s = .next t ∧
      (data.extractLsb' 1 2 = 3#2 → mode = s.notice.mode) ∧
      (data.extractLsb' 1 2 ≠ 3#2 → mode.code = (data.extractLsb' 1 2).toNat) ∧
      t = { s.settled with notice := { s.notice with
        mode := mode
        watermark := data.extractLsb' 4 3
        journeyFirst := data.getLsbD 7
        latch := if mode = s.notice.mode ∧ data.getLsbD 3 = false then s.notice.latch else none
        noteN := !t.anyPending } } ∧
      t.engControl = (data &&& 0x00F0#16) ||| BitVec.ofNat 16 (2 * mode.code)) ∧
    (lanes.low = false → exec c s = .next s.settled.onlyNote)

/-- A write to EVENT_ENABLE stores the enable bits of the lanes it selects, changes no flag, and takes effect at once
on the two causes of the flags; no enable bit stops a flag from being set; the bits stand through an engine reset and
are all 1 after power-on. -/
def Obligations.EventEnableStoresSelectedLanes : Prop :=
  (∀ (s : State) (data : Word) (lanes : Lanes), ∃ t, exec (.eventEnableWrite data lanes) s = .next t ∧
    t = { s.settled with notice := { s.notice with enable := t.notice.enable, noteN := !t.anyPending } } ∧
    (∀ i : Fin 9, t.notice.enable.getLsbD i =
      if (if i.val < 8 then lanes.low else lanes.high) then data.getLsbD i else s.notice.enable.getLsbD i) ∧
    t.hostRead 0x8008#16 = t.eventEnable ∧ t.eventEnable &&& 0xFE00#16 = 0#16 ∧
    (∀ i : Fin 9, t.eventEnable.getLsbD i = t.notice.enable.getLsbD i) ∧
    (t.journeyCause.isSome ↔ ∃ i : Fin 9, i.val < 4 ∧ s.notice.flags.getLsbD i ∧ t.notice.enable.getLsbD i) ∧
    (t.faultCause.isSome ↔ ∃ i : Fin 9, 4 ≤ i.val ∧ s.notice.flags.getLsbD i ∧ t.notice.enable.getLsbD i)) ∧
  (∀ (s : State) (f : EventFlag), (s.raise f).flag f = true ∧ (s.raise f).notice.enable = s.notice.enable) ∧
  (∀ (s : State) (data : Word) (lanes : Lanes), ∃ t, exec (.engineReset data lanes) s = .next t ∧
    t.notice.enable = s.notice.enable) ∧
  ∀ s : State, ∃ t, exec .powerOn s = .next t ∧ t.notice.enable = 0x1FF#9

/-- A write to EVENT_FLAGS clears each flag written 1 in a lane it selects and sets none; written 1, FIRST_FAULT, set
or not, re-arms the capture, and no other field changes. -/
def Obligations.EventFlagsClearWrittenOnes : Prop :=
  ∀ (s : State) (data : Word) (lanes : Lanes), ∃ t, exec (.eventFlagsClear data lanes) s = .next t ∧
    t = { s.settled with
      mem := t.mem
      journey := { s.journey with
        capture := if lanes.high && data.getLsbD 8 then none else s.journey.capture }
      notice := { s.notice with flags := t.notice.flags, noteN := !t.anyPending } } ∧
    (∀ i : Fin 9, t.notice.flags.getLsbD i =
      (s.notice.flags.getLsbD i && !((if i.val < 8 then lanes.low else lanes.high) && data.getLsbD i))) ∧
    s.sameBytesBut t (fun a => inMirror a ∧ lanes.high = true ∧ data.getLsbD 8 = true)

/-- NOTICE reads as the code and the index of the highest-ranked pending cause, 0 in both with none, NOTE_N is low
exactly while NOTICE is not 0, and each cause is pending as Table 11-2 says: ANSWER in EACH mode by the lowest DONE
INSPECT cell, in FIRST mode by the latch, MAINT by the watermark, JOURNEY and FAULT by the set, enabled flags. -/
def Obligations.NoticeShowsHighestCause : Prop :=
  (∀ s : State,
    (∀ i, s.faultCause = some i → s.topCause = (4, i)) ∧
    (∀ i, s.faultCause = none → s.answerCause = some i →
      (s.notice.journeyFirst = false ∨ s.journeyCause = none) → s.topCause = (1, i)) ∧
    (∀ i, s.faultCause = none → s.journeyCause = some i →
      (s.notice.journeyFirst = true ∨ s.answerCause = none) → s.topCause = (3, i)) ∧
    (∀ i, s.faultCause = none → s.answerCause = none → s.journeyCause = none → s.maintCause = some i →
      s.topCause = (2, i)) ∧
    (s.anyPending = false → s.topCause = (0, 0)) ∧
    s.hostRead 0x8004#16 = s.noticeWord ∧
    (s.topCause.2 ≤ 255 → s.noticeWord.toNat = s.topCause.1 + 256 * s.topCause.2) ∧
    (s.noticeWord = 0#16 ↔ s.anyPending = false) ∧
    (s.noteAgrees → (s.notice.noteN = false ↔ s.noticeWord ≠ 0#16))) ∧
  (∀ s : State, s.countsExact →
    (s.notice.mode = .off → s.answerCause = none) ∧
    (s.notice.mode = .first → s.answerCause = s.notice.latch.map Fin.val) ∧
    (s.notice.mode = .each → (∀ n : Fin 32, s.answerCause = some n.val ↔
      (s.kindOf n = some .inspect ∧ s.cellState n = .done) ∧
        ∀ m : Fin 32, m < n → ¬ (s.kindOf m = some .inspect ∧ s.cellState m = .done)) ∧
      (s.answerCause = none ↔ ∀ m : Fin 32, ¬ (s.kindOf m = some .inspect ∧ s.cellState m = .done))) ∧
    (s.maintCause = if s.notice.watermark.toNat + 1 ≤ s.countCells .done (fun k => decide (k ≠ some .inspect))
      then some (s.countCells .done (fun k => decide (k ≠ some .inspect))) else none) ∧
    (∀ i, s.maintCause = some i → 1 ≤ i ∧ i ≤ 32) ∧
    (∀ i, s.journeyCause = some i ↔ (∃ f ∈ [0, 1, 2, 3], s.notice.flags.getLsbD f ∧ s.notice.enable.getLsbD f) ∧
      i = if s.journey.kind = .nowhere then 0 else s.journey.stop) ∧
    (∀ i, s.faultCause = some i ↔ (4 ≤ i ∧ i ≤ 8 ∧ s.notice.flags.getLsbD i ∧ s.notice.enable.getLsbD i) ∧
      ∀ j, 4 ≤ j → j < i → ¬ (s.notice.flags.getLsbD j ∧ s.notice.enable.getLsbD j)))

/-! ### The host port, the mirror and the cells -/

/-- What host reads return. A read of mirror word 0 drives its live word and takes the hold copy, from which words 1 to
31 are read until the next such read, whatever the live mirror has become; with no copy they are read live, as every
other word of exchange memory is. ENG_STATUS shows the service state, the clock valid flag, the sweep active indication
and the READY and DONE counts; ENG_CONTROL the fields as stored, ENGINE_RESET and REARM 0; EVENT_FLAGS and EVENT_ENABLE
the nine bits of Table 11-1. -/
def Obligations.HostReadsShowState : Prop :=
  (∀ (s : State) (lanes : Lanes), (lanes.low || lanes.high) = true →
    ∃ t, exec (.mirrorWord0Read lanes) s = .next t ∧
      t = { s.settled with
        readData := s.mem.read 0x0801 ++ s.mem.read 0x0800
        journey := { s.journey with hold := t.journey.hold } } ∧
      ∀ (u : State) (w : Nat), u.journey.hold = t.journey.hold → 1 ≤ w → w ≤ 31 →
        u.hostRead (BitVec.ofNat 16 (0x0800 + 2 * w)) =
          s.mem.read (0x0800 + 2 * w + 1) ++ s.mem.read (0x0800 + 2 * w)) ∧
  ((∀ (s : State) (w : Nat), w < 0x4000 → s.journey.hold = none ∨ w ≤ 0x0400 ∨ 0x0420 ≤ w →
    s.hostRead (BitVec.ofNat 16 (2 * w)) = s.mem.read (2 * w + 1) ++ s.mem.read (2 * w)) ∧
  ((∀ (s : State) (r : Word), r = s.hostRead 0x8000#16 → s.countsExact →
    (r.extractLsb' 0 2 = 0#2 ↔ s.table.service = .noService) ∧
    (r.extractLsb' 0 2 = 1#2 ↔ s.table.service = .checking) ∧
    (r.extractLsb' 0 2 = 2#2 ↔ s.table.service = .inService) ∧
    (r.extractLsb' 0 2 = 3#2 ↔ s.table.service = .terminated) ∧
    r.getLsbD 2 = s.clock.valid ∧ r.getLsbD 3 = s.deny.sweep.isSome ∧
    (r.extractLsb' 4 6).toNat = s.countCells .ready ∧ (r.extractLsb' 10 6).toNat = s.countCells .done) ∧
  ((∀ (s : State) (r : Word), r = s.hostRead 0x8002#16 →
    r.getLsbD 0 = false ∧ (r.extractLsb' 1 2 = 0#2 ↔ s.notice.mode = .off) ∧
    (r.extractLsb' 1 2 = 1#2 ↔ s.notice.mode = .first) ∧ (r.extractLsb' 1 2 = 2#2 ↔ s.notice.mode = .each) ∧
    r.getLsbD 3 = false ∧ r.extractLsb' 4 3 = s.notice.watermark ∧ r.getLsbD 7 = s.notice.journeyFirst ∧
    r.extractLsb' 8 8 = 0#8) ∧
  ((∀ (s : State) (i : Fin 16),
    (s.hostRead 0x8006#16).getLsbD i = (decide (i.val < 9) && s.notice.flags.getLsbD i) ∧
    (s.hostRead 0x8008#16).getLsbD i = (decide (i.val < 9) && s.notice.enable.getLsbD i)) ∧
  ∀ s : State, [EventFlag.stopReached, .boundary, .terminus, .dayChange, .cellMisuse, .guardHit, .denyFull, .clockLost,
    .firstFault].map s.flag = (List.range 9).map (s.hostRead 0x8006#16).getLsbD))))

/-- A host write to a word of exchange memory that reaches no state byte: each byte of a lane selected is stored
unless it lies in the mirror or under a guard, a guarded byte sets GUARD_HIT, and nothing else changes. The bytes
under a guard are those of a TAKEN cell, of the context region while the service state is not NO_SERVICE, and of the
extent of the batch in flight, and no other. Writes to ENG_STATUS and NOTICE, under either name, and writes to
addresses without storage change nothing (but that free units begin their waiting work); a host write to another
register has the meaning of the command named for it. -/
def Obligations.HostWriteStoresOrIsDiscarded : Prop :=
  (∀ (s : State) (addr data : Word) (lanes : Lanes) (a : Nat), s.memoryCanonical → a = evenAddress addr →
    a < Config.memoryEnd → (a < Config.mirrorBase → a % Config.cellSize ≠ 0 ∨ lanes.low = false) →
    ∃ t, exec (.hostWrite addr data lanes) s = .next t ∧
      t = { s.settled with
        mem := t.mem
        notice := { s.notice with flags := t.notice.flags, noteN := !t.anyPending } } ∧
      s.sameFlagsBut t [.guardHit] ∧
      t.flag .guardHit = (s.flag .guardHit || (lanes.low && s.guarded a) || (lanes.high && s.guarded (a + 1))) ∧
      t.mem.read a = (if lanes.low = true ∧ ¬ inMirror a ∧ s.guarded a = false then lowByte data else s.mem.read a) ∧
      t.mem.read (a + 1) =
        (if lanes.high = true ∧ ¬ inMirror a ∧ s.guarded (a + 1) = false then highByte data
          else s.mem.read (a + 1)) ∧
      s.sameBytesBut t (fun x => x = a ∨ x = a + 1)) ∧
  ((∀ (s : State) (a : Nat), a < 0x8000 → (s.guarded a = true ↔
    (∃ n : Fin 32, 64 * n.val ≤ a ∧ a < 64 * n.val + 64 ∧ s.cellState n = .taken) ∨
    0x1000 ≤ a ∧ a < 0x3000 ∧ s.table.service ≠ .noService ∨
    0x3000 ≤ a ∧ ∃ (h : Fin 32 × TableTask) (offset count applied : Nat) (applying : Bool),
      s.table.held = some h ∧ h.2 = .denyBatch offset count applied applying ∧
      offset ≤ a ∧ a < offset + 4 + 12 * count)) ∧
  ((∀ (s : State) (reg : ReadOnlyReg) (data : Word) (lanes : Lanes),
    exec (.registerWriteIgnored reg data lanes) s = .next s.settled) ∧
  ((∀ (s : State) (addr data : Word) (lanes : Lanes), s.noteAgrees →
    (evenAddress addr = Config.engStatusAddr ∨ evenAddress addr = Config.noticeAddr ∨ 0x800A ≤ evenAddress addr) →
    exec (.hostWrite addr data lanes) s = .next s.settled ∧ (0x800A ≤ evenAddress addr → s.hostRead addr = 0#16)) ∧
  ∀ (s : State) (addr data : Word) (lanes : Lanes),
    (evenAddress addr = 0x8002 → ∀ c ∈ [Instr.engineReset data lanes, .answerMode data lanes, .watermark data lanes,
        .journeyFirst data lanes, .rearm data lanes],
      exec (.hostWrite addr data lanes) s = exec c s) ∧
    (evenAddress addr = 0x8006 → exec (.hostWrite addr data lanes) s = exec (.eventFlagsClear data lanes) s) ∧
    (evenAddress addr = 0x8008 → exec (.hostWrite addr data lanes) s = exec (.eventEnableWrite data lanes) s))))

/-- READY written into an EMPTY cell, with the kind byte in the same access or already there. A known kind: it is
recorded, the cell is READY and its index stands at the tail of its kind's queue. An unknown kind: the cell is answered
BAD_REQUEST, detail KIND, within the access, and joins no queue. -/
def Obligations.ArrivalQueuesOrIsAnswered : Prop :=
  (∀ (s : State) (n : Fin 32) (kind : Option Byte) (k : RequestKind), s.memoryCanonical →
    s.cellState n = .empty → RequestKind.ofByte (kind.getD (s.cellByte n 1)) = some k →
    ∃ t, exec (.arrival n kind) s = .next t ∧
      t = { s.settled with
        mem := t.mem
        intake := ({ s.intake with
          arrivalKind := s.intake.arrivalKind.set n (kind.getD (s.cellByte n 1)) }).setQueue k.queue
            (s.intake.queue k.queue ++ [n])
        notice := { s.notice with readyCount := s.notice.readyCount + 1, noteN := !t.anyPending } } ∧
      t.cellState n = .ready ∧ t.cellByte n 1 = kind.getD (s.cellByte n 1) ∧
      s.sameBytesBut t (fun a => a = cellBase n ∨ a = cellBase n + 1)) ∧
  (∀ (s : State) (n : Fin 32) (kind : Option Byte), s.memoryCanonical → s.cellState n = .empty →
    RequestKind.ofByte (kind.getD (s.cellByte n 1)) = none →
    ∃ t, exec (.arrival n kind) s = .next t ∧
      t = { s.settled with
        mem := t.mem
        intake := { s.intake with
          arrivalKind := s.intake.arrivalKind.set n (kind.getD (s.cellByte n 1)) }
        notice := { s.notice with
          doneCount := s.notice.doneCount + 1, otherDone := s.notice.otherDone + 1, noteN := !t.anyPending } } ∧
      t.answers n [0x41#8, 0x01#8] ∧ t.cellByte n 1 = kind.getD (s.cellByte n 1) ∧
      s.sameBytesBut t (fun a => a = cellBase n ∨ a = cellBase n + 1 ∨ inAnswer n a))

/-- The other writes to a state byte. READY into a cell that is not EMPTY is no arrival: a READY cell keeps its place, a
DONE cell sets CELL_MISUSE, a TAKEN cell sets nothing; a kind byte in the same access is stored, but in a TAKEN cell
discarded with GUARD_HIT; a host write of the word has the same meaning as the ARRIVAL. A value of Table 10-3's misuse
columns sets CELL_MISUSE and changes nothing else. A write of any value to both bytes of word 0 sets GUARD_HIT and
changes no byte of a TAKEN cell; in another it stores the kind byte and is then the write to the state byte alone. -/
def Obligations.StateByteWritesByTable : Prop :=
  (∀ (s : State) (n : Fin 32) (kind : Option Byte), s.memoryCanonical →
    exec (.hostWrite (BitVec.ofNat 16 (cellBase n)) (kind.getD 0#8 ++ 0x01#8)
      { low := true, high := kind.isSome }) s = exec (.arrival n kind) s ∧
    (s.cellState n ≠ .empty → ∃ t, exec (.arrival n kind) s = .next t ∧
      t = { s.settled with
        mem := t.mem
        notice := { s.notice with flags := t.notice.flags, noteN := !t.anyPending } } ∧
      t.cellState n = s.cellState n ∧
      t.cellByte n 1 = (if s.cellState n = .taken then s.cellByte n 1 else kind.getD (s.cellByte n 1)) ∧
      s.sameBytesBut t (fun a => a = cellBase n + 1) ∧
      s.sameFlagsBut t [.cellMisuse, .guardHit] ∧
      t.flag .cellMisuse = (s.flag .cellMisuse || decide (s.cellState n = .done)) ∧
      t.flag .guardHit = (s.flag .guardHit || (decide (s.cellState n = .taken) && kind.isSome)))) ∧
  ((∀ (s : State) (n : Fin 32) (data : Word),
    ∃ t, exec (.hostWrite (BitVec.ofNat 16 (cellBase n)) data { low := true, high := false }) s = .next t ∧
      (((s.cellState n = .empty ∨ s.cellState n = .ready) ∧ 2 ≤ (lowByte data).toNat ∨
          s.cellState n = .done ∧ 1 ≤ (lowByte data).toNat) →
        t = { s.settled with notice := { s.notice with flags := t.notice.flags, noteN := !t.anyPending } } ∧
        t.flag .cellMisuse = true ∧ s.sameFlagsBut t [.cellMisuse]) ∧
      ((s.cellState n = .taken ∨ s.cellState n = .empty ∧ lowByte data = 0#8 ∨
          s.cellState n = .ready ∧ lowByte data = 1#8) →
        t = s.settled.onlyNote)) ∧
  ∀ (s : State) (n : Fin 32) (data : Word),
    (s.cellState n = .taken →
      ∃ t, exec (.hostWrite (BitVec.ofNat 16 (cellBase n)) data { low := true, high := true }) s = .next t ∧
        t = { s.settled with notice := { s.notice with flags := t.notice.flags, noteN := !t.anyPending } } ∧
        t.flag .guardHit = true ∧ s.sameFlagsBut t [.guardHit]) ∧
    (s.cellState n ≠ .taken → ∀ u : State, u = { s with mem := s.mem.write (64 * n.val + 1) (highByte data) } →
      exec (.hostWrite (BitVec.ofNat 16 (cellBase n)) data { low := true, high := true }) s =
        exec (.hostWrite (BitVec.ofNat 16 (cellBase n)) data { low := true, high := false }) u ∧
      (s.memoryCanonical → u.memoryCanonical ∧ u.cellByte n 1 = highByte data ∧
        s.sameBytesBut u (fun a => a = cellBase n + 1))))

/-- EMPTY written into a READY cell: its index leaves its queue, the others keep their order, and the request is never
served. Into a DONE cell: its answer and every other byte stand and the count of its kind falls. Into a TAKEN or EMPTY
cell: nothing changes. A host write of 00h to the state byte is both commands in one (log entry 5). -/
def Obligations.WithdrawalAndReleaseEmptyCell : Prop :=
  (∀ (s : State) (n : Fin 32) (k : RequestKind) (c : Instr), s.memoryCanonical → s.cellState n = .ready →
    s.kindOf n = some k → c = .withdrawal n ∨ c = .release n →
    ∃ t, exec c s = .next t ∧
      t = { s.settled with
        mem := t.mem
        intake := s.intake.setQueue k.queue ((s.intake.queue k.queue).filter fun m => m ≠ n)
        notice := { s.notice with readyCount := s.notice.readyCount - 1, noteN := !t.anyPending } } ∧
      t.cellState n = .empty ∧ s.sameBytesBut t (fun a => a = cellBase n)) ∧
  (∀ (s : State) (n : Fin 32) (c : Instr), c = .withdrawal n ∨ c = .release n →
    (s.memoryCanonical → s.cellState n = .done → ∃ t, exec c s = .next t ∧
      t = { s.settled with
        mem := t.mem
        notice := { s.notice with
          doneCount := s.notice.doneCount - 1
          inspectDone := s.notice.inspectDone - (if s.kindOf n = some .inspect then 1 else 0)
          otherDone := s.notice.otherDone - (if s.kindOf n = some .inspect then 0 else 1)
          noteN := !t.anyPending } } ∧
      t.cellState n = .empty ∧ s.sameBytesBut t (fun a => a = cellBase n)) ∧
    (s.cellState n = .taken ∨ s.cellState n = .empty → exec c s = .next s.settled.onlyNote) ∧
    ∀ high : Byte, exec (.hostWrite (BitVec.ofNat 16 (cellBase n)) (high ++ 0x00#8)
      { low := true, high := false }) s = exec c s)

/-! ### The service clock -/

/-- A CLK32 edge short of the second adds one sub-second and restarts the loss timer in every timebase state. The edge
that completes a second moves the time on by exactly one second, the whole cascade within the event; the day rises at
midnight with DAY_CHANGE, and holds at 65535 without one. The loss timer's expiry in RUNNING makes the clock invalid
with its time held and sets CLOCK_LOST. That a SECOND_ADVANCE short of the second and a LOSS_TIMER_EXPIRY outside
RUNNING leave the state as it stands is the model's reading (log entries 2 and 6). -/
def Obligations.ClockCountsAndIsLost : Prop :=
  (∀ s : State, s.clock.subSecond < 32767 →
    exec .clk32Edge s = .next { s.settled with
      clock := { s.clock with subSecond := s.clock.subSecond + 1, timebase := .running, lossTimer := true }
      notice := { s.notice with noteN := !s.anyPending } }) ∧
  ((∀ (s : State) (c : Instr), s.clock.second ≤ 59 → s.clock.minute ≤ 1439 → s.clock.day ≤ 65535 →
    s.clock.subSecond = 32767 → c = .clk32Edge ∨ c = .secondAdvance →
    ∃ t, exec c s = .next t ∧
      t = { s.settled with
        mem := t.mem
        clock := { s.clock with
          day := t.clock.day, minute := t.clock.minute, second := t.clock.second, subSecond := 0,
          timebase := .running, lossTimer := true }
        deny := t.deny
        notice := { s.notice with flags := t.notice.flags, noteN := !t.anyPending } } ∧
      t.clock.second ≤ 59 ∧ t.clock.minute ≤ 1439 ∧ t.clock.day ≤ 65535 ∧
      (¬ (s.clock.day = 65535 ∧ s.clock.minute = 1439 ∧ s.clock.second = 59) →
        absSecond t.clock.day t.clock.minute t.clock.second =
          absSecond s.clock.day s.clock.minute s.clock.second + 1) ∧
      (s.clock.day = 65535 → s.clock.minute = 1439 → s.clock.second = 59 →
        t.clock.day = 65535 ∧ t.clock.minute = 0 ∧ t.clock.second = 0) ∧
      s.sameFlagsBut t [.dayChange] ∧
      t.flag .dayChange = (s.flag .dayChange || decide (t.clock.day ≠ s.clock.day)) ∧
      t.deny = (if t.clock.day ≠ s.clock.day then s.deny.dayChange t.clock.day else s.deny).advance ∧
      s.sameBytesBut t inMirror) ∧
  ∀ s : State, s.clock.subSecond < 32767 → exec .secondAdvance s = .next s) ∧
  ((∀ s : State, s.clock.timebase = .running → s.clock.lossTimer = true →
    ∃ t, exec .lossTimerExpiry s = .next t ∧
      t = { s.settled with
        mem := t.mem
        clock := { s.clock with timebase := .lost, valid := false, lossTimer := false }
        notice := { s.notice with flags := t.notice.flags, noteN := !t.anyPending } } ∧
      t.flag .clockLost = true ∧ s.sameFlagsBut t [.clockLost] ∧ s.sameBytesBut t inMirror) ∧
  ∀ s : State, s.clock.timebase ≠ .running → exec .lossTimerExpiry s = .next s)

/-- A CLOCK-SET in range and within the trim limit, where one applies, is accepted: the clock takes the requested
time, is valid and RUNNING, and a forward day raises one DAY_CHANGE. Out of range it is BAD_REQUEST, past the limit
STEP_TOO_LARGE, and nothing but its cell changes. The answer is the clock before. -/
def Obligations.ClockSetAcceptedOrRefused : Prop :=
  (∀ (s : State) (n : Fin 32) (day minute second : Nat), s.memoryCanonical →
    s.journeyHead .clockSet = some n → s.clockRequest n = { day := day, minute := minute, second := second } →
    minute ≤ 1439 → second ≤ 59 →
    (s.table.service = .noService ∨ s.clock.valid = false ∨
      ((absSecond s.clock.day s.clock.minute s.clock.second : Int) - absSecond day minute second).natAbs ≤ 600) →
    ∃ t, exec .clockSet s = .next t ∧
      t = { s.settled with
        mem := t.mem
        intake := { s.intake with journey := s.intake.journey.tail }
        clock := { day := day, minute := minute, second := second, subSecond := 0, valid := true,
                   timebase := .running, lossTimer := true }
        deny := (if s.clock.day < day then s.deny.dayChange day else s.deny).advance
        notice := { s.notice with flags := t.notice.flags }.withCounts t.notice } ∧
      s.sameFlagsBut t [.dayChange] ∧ t.flag .dayChange = (s.flag .dayChange || decide (s.clock.day < day)) ∧
      t.answers n ([0x01#8, 0#8] ++ le16 s.clock.day ++ le16 s.clock.minute ++
        [byteOf s.clock.second, flagByte s.clock.valid, flagByte (decide (s.clock.day < day))]) ∧
      s.sameBytesBut t (fun a => a = cellBase n ∨ inAnswer n a ∨ inMirror a)) ∧
  (∀ (s : State) (n : Fin 32) (day minute second : Nat), s.memoryCanonical →
    s.journeyHead .clockSet = some n → s.clockRequest n = { day := day, minute := minute, second := second } →
    (1439 < minute ∨ 59 < second ∨ s.table.service ≠ .noService ∧ s.clock.valid = true ∧
      600 < ((absSecond s.clock.day s.clock.minute s.clock.second : Int) - absSecond day minute second).natAbs) →
    ∃ t, exec .clockSet s = .next t ∧
      t = { s.settled with
        mem := t.mem
        intake := { s.intake with journey := s.intake.journey.tail }
        notice := s.notice.withCounts t.notice } ∧
      t.answers n ((if 1439 < minute then [0x41#8, 0x01#8] else if 59 < second then [0x41#8, 0x02#8]
          else [0x47#8, 0x00#8]) ++
        le16 s.clock.day ++ le16 s.clock.minute ++ [byteOf s.clock.second, flagByte s.clock.valid, 0#8]) ∧
      s.sameBytesBut t (fun a => a = cellBase n ∨ inAnswer n a))

/-! ### Arithmetic of an inspection -/

/-- T is the number of distinct zones of the stops of a legal ride, from 1 to the number of stops; C the number of them
that are covered, from 0 to T. A zone is covered when a set bit of the mask names it through its slice, once however
many bits name it; 16 only of a full mask and two different slices, none of a mask whose set bits all fall in absent
slices. The stops of a ride are those from the one end to the other, and the boundaries of a path its flagged stops. -/
def Obligations.ZonesTranslatedAndCounted : Prop :=
  (∀ (m : Memory) (b a : Nat) (covered : List Nat), m.header.stops ≤ 48 → b < m.header.stops → a < m.header.stops →
    m.header.behind a b = false →
    (m.rideZones b a).Nodup ∧
    (∀ z, z ∈ m.rideZones b a ↔ ∃ j, min b a ≤ j ∧ j ≤ max b a ∧ (m.route j).zone = z) ∧
    1 ≤ (m.rideZones b a).length ∧ (m.rideZones b a).length ≤ max b a - min b a + 1 ∧
    (m.rideZones b a).length ≤ 48 ∧
    countCovered (m.rideZones b a) covered = ((m.rideZones b a).filter fun z => decide (z ∈ covered)).length ∧
    countCovered (m.rideZones b a) covered ≤ (m.rideZones b a).length) ∧
  ((∀ (mask : Word) (a b : Nat), (a ≤ 31 ∨ a = 0xFF) → (b ≤ 31 ∨ b = 0xFF) →
    (coveredZones mask a b).Nodup ∧
    (∀ z, z ∈ coveredZones mask a b ↔ ∃ k, k < 16 ∧ mask.getLsbD k = true ∧
      (if k < 8 then a else b) ≠ 0xFF ∧ z = 8 * (if k < 8 then a else b) + k % 8) ∧
    (coveredZones mask a b).length ≤ 16 ∧
    ((coveredZones mask a b).length = 16 ↔ mask = 0xFFFF#16 ∧ a ≠ 0xFF ∧ b ≠ 0xFF ∧ a ≠ b) ∧
    (coveredZones mask a b = [] ↔ ∀ k, k < 16 → mask.getLsbD k = true → (if k < 8 then a else b) = 0xFF)) ∧
  ∀ (m : Memory) (b a : Nat), m.header.behind a b = false →
    (m.header.stopsBetween b a).Nodup ∧
    (∀ j, j ∈ m.header.stopsBetween b a ↔ min b a ≤ j ∧ j ≤ max b a) ∧
    m.boundaryCount (m.header.stopsBetween b a) = ((m.header.stopsBetween b a).filter m.isBoundary).length)

/-- The discount is the multiple of the rounding step nearest to base × share ÷ 100, the upper one at a tie, worked
out as q and rem; a base or a share of 0 gives 0. -/
def Obligations.DiscountRoundsToNearestStep : Prop :=
  ∀ base share r : Nat, base ≤ 65535 → share ≤ 100 → 1 ≤ r → r ≤ 100 →
    base * share ≤ 6553500 ∧
    (2 * (base * share % (100 * r)) < 100 * r →
      discounted base share r = base * share / (100 * r) * r) ∧
    (100 * r ≤ 2 * (base * share % (100 * r)) →
      discounted base share r = (base * share / (100 * r) + 1) * r) ∧
    r ∣ discounted base share r ∧
    2 * (100 * discounted base share r) ≤ 2 * (base * share) + 100 * r ∧
    2 * (base * share) < 2 * (100 * discounted base share r) + 100 * r ∧
    ((base = 0 ∨ share = 0) → discounted base share r = 0) ∧
    discounted base share r ≤ 65585

/-- fare* of tables that an open accepts: 0 at 0, the table's fare up to 16 zones, flat beyond, and never falling. The
amount by verdict: nothing for VALID, VALID_GRACE and the refused class, the stored amount for REPEAT, the discounted
difference of fares for SHORTFALL, the discounted whole fare and the penalty for the other faults, each held to the
cap; a SHORTFALL of a flat fare is 0. -/
def Obligations.AmountFollowsVerdict : Prop :=
  (∀ m : Memory, m.fieldFault = none →
    m.fareStar 0 = 0 ∧ (∀ x, 1 ≤ x → x ≤ 16 → m.fareStar x = m.read16 (0x105C + 2 * (x - 1))) ∧
    (∀ x, 16 ≤ x → m.fareStar x = m.fareStar 16) ∧ ∀ x y, x ≤ y → m.fareStar x ≤ m.fareStar y) ∧
  (∀ (m : Memory) (v : Verdict) (t c cls stored : Nat),
    (v ∈ [.valid, .validGrace, .noService, .badRequest, .aborted] → m.amount v t c cls stored = 0) ∧
    (v = .repeat → m.amount v t c cls stored = stored) ∧
    (v = .shortfall → m.amount v t c cls stored =
      min (discounted (m.fareStar t - m.fareStar c) (m.share cls) m.header.rounding) m.header.cap) ∧
    (v ∈ [.noCover, .expired, .notYetValid, .exhausted, .revoked, .passback, .unreadable, .notAccepted] →
      m.amount v t c cls stored =
        min (discounted (m.fareStar t) (m.share cls) m.header.rounding + m.header.penalty) m.header.cap) ∧
    (stored ≤ m.header.cap → m.amount v t c cls stored ≤ m.header.cap) ∧
    (v = .shortfall → 0 < m.header.rounding → m.fareStar t = m.fareStar c → m.amount v t c cls stored = 0))

/-- The classification of a moment against a window in the order of its cases, and the time stage: unchecked without a
valid clock; a CHECKIN tap before the start of the service day is EXPIRED, detail EARLIER_DAY; otherwise the window runs
from the start for its minutes, or, for a RIDES or PERIOD credential of unit 1, to the day-change minute after its last
service day. -/
def Obligations.TimeStageJudgesWindow : Prop :=
  (∀ now start stop grace : Nat,
    (now < start → classifyWindow now start stop grace = .notYetValid) ∧
    (start ≤ now → now < stop → classifyWindow now start stop grace = .pass false) ∧
    (start ≤ now → stop ≤ now → now < stop + grace → classifyWindow now start stop grace = .pass true) ∧
    (start ≤ now → stop + grace ≤ now → classifyWindow now start stop grace = .expired 0x01#8) ∧
    classifyWindow now start stop 0 ≠ .pass true) ∧
  (∀ (h : Header) (snap : Snapshot) (k : Ticket),
    (snap.clockValid = false → timeStage h snap k = .unchecked) ∧
    (snap.clockValid = true → k.product = 3 →
      k.startDay * 1440 + k.startMinute < snap.serviceDay * 1440 + h.dayChange →
      timeStage h snap k = .expired 0x02#8) ∧
    (snap.clockValid = true → k.product = 3 →
      snap.serviceDay * 1440 + h.dayChange ≤ k.startDay * 1440 + k.startMinute →
      timeStage h snap k = classifyWindow (snap.day * 1440 + snap.minute) (k.startDay * 1440 + k.startMinute)
        (k.startDay * 1440 + k.startMinute + k.durationAmount) h.grace) ∧
    (snap.clockValid = true → k.product ≠ 3 → k.durationUnit = 0 →
      timeStage h snap k = classifyWindow (snap.day * 1440 + snap.minute) (k.startDay * 1440 + k.startMinute)
        (k.startDay * 1440 + k.startMinute + k.durationAmount) h.grace) ∧
    (snap.clockValid = true → k.product ≠ 3 → k.durationUnit = 1 →
      timeStage h snap k = classifyWindow (snap.day * 1440 + snap.minute) (k.startDay * 1440 + k.startMinute)
        (((if h.dayChange ≤ k.startMinute then k.startDay else k.startDay - 1) + k.durationAmount) * 1440 +
          h.dayChange) h.grace))

/-! ### The check unit -/

/-- The four figures of Table 9-1, and that a check word stored low byte first leaves a residue. -/
def Obligations.CheckFigures : Prop :=
  checkOf [0x00#8] = 0xE1F0#16 ∧ checkOf [0x01#8] = 0xF1D1#16 ∧
    checkOf [0x31#8, 0x32#8, 0x33#8, 0x34#8, 0x35#8, 0x36#8, 0x37#8, 0x38#8, 0x39#8] = 0x29B1#16 ∧
    checkOf [0x31#8, 0x32#8, 0x33#8, 0x34#8, 0x35#8, 0x36#8, 0x37#8, 0x38#8, 0x39#8, 0x29#8, 0xB1#8] = 0x0000#16 ∧
    checkOf [0x31#8, 0x32#8, 0x33#8, 0x34#8, 0x35#8, 0x36#8, 0x37#8, 0x38#8, 0x39#8, 0xB1#8, 0x29#8] ≠ 0x0000#16

/-- The remainder over a run and its own check word, high byte first, is 0000h; and of a run whose residue is 0000h a
change within 16 consecutive bits that leaves the length gives another residue. -/
def Obligations.ResidueTellsShortChanges : Prop :=
  (∀ bs : List Byte, checkOf (bs ++ [highByte (checkOf bs), lowByte (checkOf bs)]) = 0#16) ∧
  ∀ (bs cs : List Byte) (k : Nat), bs.length = cs.length → bs ≠ cs →
    (∀ i, i < k ∨ k + 16 ≤ i → (bitsOf bs)[i]? = (bitsOf cs)[i]?) →
    checkOf bs = 0#16 → checkOf cs ≠ 0#16

/-- An idle check unit with work waiting begins the verdict engine's job, whichever request came first, and otherwise
the next piece of the table unit's from its saved remainder; a unit at work goes on with it. A piece of a table-unit
job that is not its last ends: the job is suspended 64 bytes on with the remainder of the piece, and the unit serves a
waiting verdict-engine job from its own preset, or goes on with the next piece. A command that is no request and no
end of the unit's work leaves the jobs alone, and an idle unit begins with it what waited; that the table unit's
request waits for the next event is the model's choice (log entry 9). -/
def Obligations.PieceEndSuspendsJob : Prop :=
  (∀ u : CheckUnit, u.choose = { u with
    serving :=
      if u.serving.isSome then u.serving
      else if u.engineJob.isSome then some { owner := .verdictEngine, remainder := 0xFFFF#16 }
      else u.tableJob.map fun j => { owner := .tableUnit, remainder := j.remainder } }) ∧
  ((∀ (c : Instr) (s t : State), exec c s = .next t → c.resets = false →
    c ∉ [.inspect, .denyLookup .verdictEngine, .serviceOpen, .denyBatch, .checkJobEnd, .checkPieceEnd] →
    t = s ∨ t.check = s.check.choose) ∧
  ∀ (s : State) (j : TableJob) (r : Word),
    s.check.choose.serving = some { owner := .tableUnit, remainder := r } → s.check.tableJob = some j →
    64 < j.length - j.position →
    ∃ t, exec .checkPieceEnd s = .next t ∧
      t = { s.settled with
        check := { s.check with
          tableJob := some { j with
            position := j.position + 64
            remainder := checkFrom r (s.mem.readList (j.base + j.position) 64) }
          serving := some (if s.check.engineJob.isSome then { owner := .verdictEngine, remainder := 0xFFFF#16 }
            else { owner := .tableUnit
                   remainder := checkFrom r (s.mem.readList (j.base + j.position) 64) }) }
        notice := { s.notice with noteN := !t.anyPending } })

/-- The image check ends: a residue other than 0000h is UNREADABLE, CHECK; an image that is not sane by Table 1-1 is
UNREADABLE, FIELD; an issuer not in the table is NOT_ACCEPTED; otherwise the slices are kept and the deny lookup is
asked for. The end of an image compose stores the check word high byte first, and the completion is due. Either way the
unit goes on with the table unit's job where one waits. The fields of an image stand at the bytes of Table 12-1. -/
def Obligations.ImageCheckEndJudges : Prop :=
  (∀ (s : State) (f : Flight) (run : List Byte) (r : Word),
    s.check.choose.serving = some { owner := .verdictEngine, remainder := r } → s.check.engineJob = some run →
    s.engine.flight = some f → f.stage = .integrity →
    ∃ t g, exec .checkJobEnd s = .next t ∧ t.engine.flight = some g ∧
      t = { s.settled with
        engine := { s.engine with flight := some g }
        check := { s.check with
          serving := s.check.tableJob.map fun j => { owner := .tableUnit, remainder := j.remainder }
          engineJob := none }
        deny := DenyUnit.advance { s.deny with engineLookup := t.deny.engineLookup }
        notice := { s.notice with noteN := !t.anyPending } } ∧
      (checkFrom r run ≠ 0#16 →
        g = { f with stage := .judged .unreadable, detail := 0x02#8 } ∧ t.deny = s.deny.advance) ∧
      (checkFrom r run = 0#16 → (Ticket.ofImage (s.cellBody f.cell)).sane = false →
        g = { f with stage := .judged .unreadable, detail := 0x03#8 } ∧ t.deny = s.deny.advance) ∧
      (checkFrom r run = 0#16 → (Ticket.ofImage (s.cellBody f.cell)).sane = true →
        s.mem.findIssuer (Ticket.ofImage (s.cellBody f.cell)).issuer = none →
        g = { f with sane := true, stage := .judged .notAccepted, detail := 0#8 } ∧ t.deny = s.deny.advance) ∧
      (∀ e, checkFrom r run = 0#16 → (Ticket.ofImage (s.cellBody f.cell)).sane = true →
        s.mem.findIssuer (Ticket.ofImage (s.cellBody f.cell)).issuer = some e →
        g = { f with sane := true, slices := some (e.sliceA, e.sliceB), stage := .deny } ∧
        t.deny.engineLookup = some ((Ticket.ofImage (s.cellBody f.cell)).mediaId, f.snap.day))) ∧
  ((∀ (s : State) (f : Flight) (v : Verdict) (run : List Byte) (r w : Word),
    s.check.choose.serving = some { owner := .verdictEngine, remainder := r } → s.check.engineJob = some run →
    s.engine.flight = some f → f.stage = .composing v → w = checkFrom r run →
    ∃ t g, exec .checkJobEnd s = .next t ∧ t.engine.flight = some g ∧
      t = { s.settled with
        engine := { s.engine with flight := some { f with stage := .judged v, image := g.image } }
        check := { s.check with
          serving := s.check.tableJob.map fun j => { owner := .tableUnit, remainder := j.remainder }
          engineJob := none }
        notice := { s.notice with noteN := !t.anyPending } } ∧
      (f.image = none → g.image = none) ∧
      ∀ img, f.image = some img → g.image = some (img.take 30 ++ [w.extractLsb' 8 8, w.extractLsb' 0 8])) ∧
  ((∀ k : Ticket, k.sane = true ↔
    k.issuer ≤ 63 ∧ (k.product = 1 ∨ k.product = 2 ∨ k.product = 3) ∧ k.startMinute ≤ 1439 ∧
      (k.durationUnit = 0 ∨ k.durationUnit = 1) ∧ (k.markTrain = 0 ∨ k.markMinute ≤ 1439)) ∧
  (∀ (m : Memory) (code : Nat) (e : IssuerEntry), m.findIssuer code = some e ↔
    ∃ j, j < m.header.issuerCount ∧ m.issuer j = e ∧ e.code = code ∧ ∀ i, i < j → (m.issuer i).code ≠ code) ∧
  ∀ (img : List Byte) (b w : Nat → Nat), img.length = 32 → (∀ i, b i = (img.getD i 0#8).toNat) →
    (∀ i, w i = 256 * b i + b (i + 1)) →
    Ticket.ofImage img = {
      layout := b 0, issuer := b 1, product := b 2, fareClass := b 3
      mediaId := ((((((b 4 * 256 + b 5) * 256 + b 6) * 256 + b 7) * 256 + b 8) * 256 + b 9) * 256 + b 10)
      zoneMask := BitVec.ofNat 16 (w 11), startDay := w 13, startMinute := w 15, durationUnit := b 17
      durationAmount := w 18, ridesRemaining := b 20, checkinStop := w 21, markTrain := w 23, markDay := w 25
      markMinute := w 27, markSequence := b 29 }))

/-- The last piece of a table check ends: a residue other than 0000h ends the open with TABLE_INVALID, CHECK, at that
table; after tables 1 to 4 the next table's check is asked for; after table 5 the first row of the field checks that
fails ends it, and with none the completion event is due. The last piece of a batch check ends: a residue other than
0000h answers CHECK_FAILED with nothing applied, and with 0000h record 0 is judged, and handed over as an edit or made
the one that stops the batch. Either way the unit goes on with the verdict engine's job where one waits; that an idle
unit begins the next table's job with the next event is the model's choice (log entry 9). -/
def Obligations.TableCheckEndGoesOn : Prop :=
  (∀ (s : State) (n : Fin 32) (table entry : Nat) (j : TableJob) (r : Word), s.memoryCanonical →
    s.check.choose.serving = some { owner := .tableUnit, remainder := r } → s.check.tableJob = some j →
    j.length - j.position ≤ 64 → s.table.held = some (n, .serviceOpen table entry false) →
    s.kindOf n = some .serviceOpen →
    ∃ t residue, exec .checkJobEnd s = .next t ∧
      residue = checkFrom r (s.mem.readList (j.base + j.position) (j.length - j.position)) ∧
      t = { s.settled with
        mem := t.mem, table := t.table
        check := { s.check with
          serving := if s.check.engineJob.isSome then some { owner := .verdictEngine, remainder := 0xFFFF#16 } else none
          tableJob := t.check.tableJob }
        notice := s.notice.withCounts t.notice } ∧
      s.sameBytesBut t (fun a => a = cellBase n ∨ inAnswer n a ∨ inMirror a) ∧
      (residue ≠ 0#16 → t.table = { service := .noService, held := none } ∧ t.check.tableJob = none ∧
        t.answers n [0x46#8, 0x01#8, byteOf table, 0xFF#8]) ∧
      (residue = 0#16 → table < 5 → t.table = { s.table with held := some (n, .serviceOpen (table + 1) 0xFF false) } ∧
        t.check.tableJob = some { base := (Config.tableExtent (table + 1)).1
                                  length := (Config.tableExtent (table + 1)).2, position := 0
                                  remainder := 0xFFFF#16 }) ∧
      (∀ row, residue = 0#16 → 5 ≤ table → s.mem.fieldFault = some row →
        t.table = { service := .noService, held := none } ∧ t.check.tableJob = none ∧
        t.answers n [0x46#8, row.detail, byteOf row.table, byteOf row.entry]) ∧
      (residue = 0#16 → 5 ≤ table → s.mem.fieldFault = none →
        t.table = { s.table with held := some (n, .serviceOpen 1 2 true) } ∧ t.check.tableJob = none)) ∧
  ((∀ (s : State) (n : Fin 32) (offset count applied : Nat) (j : TableJob) (r : Word), s.memoryCanonical →
    s.check.choose.serving = some { owner := .tableUnit, remainder := r } → s.check.tableJob = some j →
    j.length - j.position ≤ 64 → s.table.held = some (n, .denyBatch offset count applied false) →
    s.kindOf n = some .denyBatch → 0 < count →
    ∃ t residue, exec .checkJobEnd s = .next t ∧
      residue = checkFrom r (s.mem.readList (j.base + j.position) (j.length - j.position)) ∧
      t = { s.settled with
        mem := t.mem
        table := { s.table with held := t.table.held }
        check := { s.check with
          serving := if s.check.engineJob.isSome then some { owner := .verdictEngine, remainder := 0xFFFF#16 } else none
          tableJob := none }
        deny := DenyUnit.advance { s.deny with edit := t.deny.edit }
        notice := s.notice.withCounts t.notice } ∧
      s.sameBytesBut t (fun a => a = cellBase n ∨ inAnswer n a) ∧
      (residue ≠ 0#16 → t.table.held = none ∧ t.deny = s.deny.advance ∧
        t.answers n ([0x44#8, 0#8, 0#8, 0#8, 0xFF#8, 0xFF#8] ++ le16 s.deny.list.length)) ∧
      (∀ e, residue = 0#16 → (s.mem.batchRecord offset 0).judge = .ok e →
        t.table.held = some (n, .denyBatch offset count 0 true) ∧ t.deny.edit = some e ∧ t.mem = s.mem) ∧
      (∀ d, residue = 0#16 → (s.mem.batchRecord offset 0).judge = .error d →
        t.table.held = none ∧ t.deny = s.deny.advance ∧
        t.answers n ([0x41#8, d, 0#8, 0#8, 0#8, 0#8] ++ le16 s.deny.list.length))) ∧
  [1, 2, 3, 4, 5].map Config.tableExtent =
    [(0x1000, 16), (0x1010, 66), (0x1052, 10), (0x105C, 34), (0x107E, 194)])

/-- The field checks read the rows of Table 8-4 in their order and report the first that fails, by its table, its detail
and its entry; and they find no fault exactly in tables whose every value in use lies in its range, whose codes in use
differ, whose fares never fall and whose origin is a stop short of the terminus. The tables stand at the addresses of
Table 12-13. -/
def Obligations.FieldChecksAcceptLegalTables : Prop :=
  (∀ m : Memory, m.fieldFault = none ↔
    (1 ≤ m.header.train ∧ m.header.direction ≤ 1 ∧ 2 ≤ m.header.stops ∧ m.header.stops ≤ 48 ∧
      m.header.dayChange ≤ 359 ∧ m.header.grace ≤ 30 ∧ 1 ≤ m.header.rounding ∧ m.header.rounding ≤ 100 ∧
      1 ≤ m.header.cap ∧ 1 ≤ m.header.issuerCount ∧ m.header.issuerCount ≤ 16) ∧
    (∀ j, j < m.header.issuerCount → (m.issuer j).code ≤ 63 ∧ (m.issuer j).zero = 0 ∧
      ((m.issuer j).sliceA ≤ 31 ∨ (m.issuer j).sliceA = 0xFF) ∧
      ((m.issuer j).sliceB ≤ 31 ∨ (m.issuer j).sliceB = 0xFF) ∧
      ∀ i, i < j → (m.issuer i).code ≠ (m.issuer j).code) ∧
    (∀ c, c < 8 → m.share c ≤ 100) ∧
    (∀ x, 2 ≤ x → x ≤ 16 → m.fare (x - 1) ≤ m.fare x) ∧
    (∀ j, j < m.header.stops → 1 ≤ (m.route j).code ∧ (m.route j).code ≤ 0xFFFE ∧ (m.route j).flags.toNat ≤ 1 ∧
      ∀ i, i < j → (m.route i).code ≠ (m.route j).code) ∧
    m.header.origin < m.header.stops ∧ m.header.origin ≠ m.header.terminus) ∧
  ((∀ (m : Memory) (h : Header) (rows : List (Bool × Nat × Nat × Nat)), h = m.header →
    rows =
      [(decide (h.train = 0), 1, 2, 0), (decide (h.direction ≠ 0 ∧ h.direction ≠ 1), 1, 2, 1),
        (decide (¬ (2 ≤ h.stops ∧ h.stops ≤ 48)), 1, 2, 3), (decide (359 < h.dayChange), 1, 2, 4),
        (decide (30 < h.grace), 1, 2, 5), (decide (¬ (1 ≤ h.rounding ∧ h.rounding ≤ 100)), 1, 2, 6),
        (decide (h.cap = 0), 1, 2, 8), (decide (¬ (1 ≤ h.issuerCount ∧ h.issuerCount ≤ 16)), 1, 2, 9)] ++
      (List.range h.issuerCount).flatMap (fun j =>
        [(decide (63 < (m.issuer j).code), 2, 2, j),
          (decide (¬ (((m.issuer j).sliceA ≤ 31 ∨ (m.issuer j).sliceA = 0xFF) ∧
            ((m.issuer j).sliceB ≤ 31 ∨ (m.issuer j).sliceB = 0xFF))), 2, 5, j),
          (decide ((m.issuer j).zero ≠ 0), 2, 2, j),
          (decide (∃ i ∈ List.range j, (m.issuer j).code = (m.issuer i).code), 2, 4, j)]) ++
      (List.range 8).map (fun c => (decide (100 < m.share c), 3, 2, c)) ++
      (List.range 15).map (fun i => (decide (m.fare (i + 2) < m.fare (i + 1)), 4, 3, i + 1)) ++
      (List.range h.stops).flatMap (fun j =>
        [(decide ((m.route j).code = 0 ∨ (m.route j).code = 0xFFFF), 5, 2, j),
          (decide (∃ i ∈ List.range j, (m.route j).code = (m.route i).code), 5, 4, j),
          (decide ((m.route j).flags &&& 0xFE#8 ≠ 0#8), 5, 6, j)]) ++
      [(decide (h.stops ≤ h.origin ∨ h.origin = h.terminus), 1, 7, 2)] →
    m.fieldFault.map (fun r => (r.table, r.detail.toNat, r.entry)) = (rows.find? fun r => r.1).map fun r => r.2) ∧
  ∀ (m : Memory) (b w : Nat → Nat), (∀ a, b a = (m.read a).toNat) → (∀ a, w a = b a + 256 * b (a + 1)) →
    m.header = { train := w 0x1000, direction := b 0x1002, origin := b 0x1003, stops := b 0x1004
                 dayChange := w 0x1005, grace := b 0x1007, rounding := b 0x1008, penalty := w 0x1009
                 cap := w 0x100B, issuerCount := b 0x100D } ∧
    m.header.terminus = (if b 0x1002 = 0 then b 0x1004 - 1 else 0) ∧
    (∀ k, m.header.next k = if b 0x1002 = 0 then k + 1 else k - 1) ∧
    (∀ j k, m.header.ahead j k = if b 0x1002 = 0 then decide (k < j) else decide (j < k)) ∧
    (∀ j k, m.header.behind j k = m.header.ahead k j) ∧
    (∀ j, m.issuer j = { code := b (0x1010 + 4 * j), sliceA := b (0x1010 + 4 * j + 1)
                         sliceB := b (0x1010 + 4 * j + 2), zero := b (0x1010 + 4 * j + 3) }) ∧
    (∀ c, m.share c = b (0x1052 + c)) ∧ (∀ x, m.fare x = w (0x105C + 2 * (x - 1))) ∧
    ∀ j, (m.route j).code = w (0x107E + 4 * j) ∧ (m.route j).zone = b (0x107E + 4 * j + 2) ∧
      (m.route j).flags.toNat = b (0x107E + 4 * j + 3) ∧
      m.isBoundary j = decide (b (0x107E + 4 * j + 3) % 2 = 1))

/-! ### The verdict engine -/

/-- The verdict engine takes the oldest queued cell with a snapshot of the other blocks as they stand, and begins:
NO_SERVICE without a service; BAD_REQUEST with the detail of the first condition of Table 2-1 that holds; otherwise the
request ride and its zones are formed, and a layout other than 02h is UNREADABLE without a check job while layout 02h
asks for the image check. No value of the answer but T and the detail is formed at the take, and T not where the request
is refused. -/
def Obligations.InspectTakesHeadWithSnapshot : Prop :=
  ∀ (s : State) (n : Fin 32) (rest : List (Fin 32)) (up : Bool) (ahead : Nat → Nat → Bool)
    (stops k presentation boarding alighting override b a : Nat) (fault : Option Byte),
    s.memoryCanonical → s.intake.inspection = n :: rest →
    s.engine.flight = none → s.table.service ≠ .checking → (∀ m, s.table.held ≠ some (m, .serviceClose)) →
    up = decide (s.mem.read 0x1002 = 0#8) → stops = (s.mem.read 0x1004).toNat → k = s.journey.stop →
    presentation = (s.cellByte n 4).toNat → boarding = (s.cellByte n 5).toNat →
    alighting = (s.cellByte n 6).toNat → override = (s.cellByte n 7).toNat →
    ahead = (fun x y => if up then decide (y < x) else decide (x < y)) →
    b = (if boarding = 0xFF then k else boarding) →
    a = (if alighting ≠ 0xFF then alighting
      else if s.journey.kind = .inSection then (if up then k + 1 else k - 1) else k) →
    fault = (if presentation ≠ 0 ∧ presentation ≠ 1 then some 0x01#8
      else if boarding ≠ 0xFF ∧ stops ≤ boarding ∨ alighting ≠ 0xFF ∧ stops ≤ alighting then some 0x02#8
      else if override ≠ 0xFF ∧ 7 < override then some 0x03#8
      else if ahead b k then some 0x04#8
      else if ahead b a then some 0x05#8
      else none) →
    ∃ t f, exec .inspect s = .next t ∧ t.engine.flight = some f ∧
      t = { s.settled with
        mem := t.mem
        intake := { s.intake with inspection := rest }
        engine := { s.engine with flight := some f }
        check := CheckUnit.choose { s.check with engineJob := t.check.engineJob }
        notice := s.notice.withCounts t.notice } ∧
      t.cellState n = .taken ∧ s.sameBytesBut t (fun a => a = cellBase n) ∧
      f.cell = n ∧ f.unformed ∧
      f.snap = { service := s.table.service, round := s.journey.round, stop := s.journey.stop,
                 kind := s.journey.kind, day := s.clock.day, minute := s.clock.minute,
                 serviceDay := s.journey.serviceDay, clockValid := s.clock.valid } ∧
      (s.table.service = .noService →
        f.stage = .judged .noService ∧ f.detail = 0#8 ∧ f.zones = [] ∧ f.sane = false ∧ t.check = s.check.choose) ∧
      (∀ d, s.table.service ≠ .noService → fault = some d →
        f.stage = .judged .badRequest ∧ f.detail = d ∧ f.zones = [] ∧ f.sane = false ∧ t.check = s.check.choose) ∧
      (s.table.service ≠ .noService → fault = none →
        f.ride = some (b, a) ∧ f.zones = s.mem.rideZones b a ∧ f.sane = false ∧
        (s.cellByte n 8 ≠ 0x02#8 →
          f.stage = .judged .unreadable ∧ f.detail = 0x01#8 ∧ t.check = s.check.choose) ∧
        (s.cellByte n 8 = 0x02#8 →
          f.stage = .integrity ∧ f.detail = 0#8 ∧ t.check.engineJob = some (s.cellBody n)))

/-- A lookup hits when an entry holds the media ID and has no expiry or one not before the lookup's day, returns that
entry's reason and expiry, hit or miss, and changes nothing in the list and nothing in the sweep; only a DAY_CHANGE that
waited for the lookup to complete then begins its sweep. The lookup that completes is the one in service: the other
requester's, asked for since it began, waits for it (R105; of two that waited together the command names the one,
log entry 21). -/
def Obligations.LookupHitsUnexpiredEntry : Prop :=
  (∀ (l : List DenyEntry) (id day : Nat), (l.map DenyEntry.mediaId).Pairwise (· < ·) →
    ((denyHit l id day).isSome ↔ ∃ e ∈ l, e.mediaId = id ∧ (e.expiry = 0xFFFF ∨ day ≤ e.expiry)) ∧
    (∀ e, denyHit l id day = some e → denyEntry l id = some e) ∧
    (∀ e, denyEntry l id = some e ↔ e ∈ l ∧ e.mediaId = id)) ∧
  ((∀ (s : State) (who other : LookupRequester),
    s.deny.choose.serving = some (.lookup (some other)) → other ≠ who → exec (.denyLookup who) s = .next s) ∧
  ∀ (s : State) (who : LookupRequester),
    (s.deny.choose.serving = some (.lookup none) ∨ s.deny.choose.serving = some (.lookup (some who))) →
    (who = .verdictEngine ∧ s.deny.engineLookup.isSome ∨ who = .tableUnit ∧ s.deny.probeLookup.isSome) →
    ∃ t, exec (.denyLookup who) s = .next t ∧
      t.deny = DenyUnit.advance { s.deny with
        sweep := t.deny.sweep, dayWaiting := none, serving := none
        engineLookup := if who = .verdictEngine then none else s.deny.engineLookup
        probeLookup := if who = .tableUnit then none else s.deny.probeLookup } ∧
      (s.deny.dayWaiting = none → t.deny.sweep = s.deny.sweep) ∧
      ∀ day, s.deny.dayWaiting = some day →
        t.deny.sweep = s.deny.list.head?.map fun e => { day := day, position := e.mediaId })

/-- The verdict engine's lookup is served: a hit is REVOKED with the entry's reason; a miss on a medium of the round
list raises its presented count, and is PASSBACK for a FIRST and REPEAT for a RECHECK. T stays that of the request ride,
and C, GRACE, TIME_UNCHECKED and CONSUMED stay as they were before, 0 and clear (`Flight.unformed`, which every step
keeps). -/
def Obligations.DenyLookupGivesRevokedPassbackRepeat : Prop :=
  ∀ (s : State) (f : Flight) (media day : Nat),
    (s.deny.choose.serving = some (.lookup none) ∨ s.deny.choose.serving = some (.lookup (some .verdictEngine))) →
    s.deny.engineLookup = some (media, day) → s.engine.flight = some f → f.stage = .deny →
    ∃ t g, exec (.denyLookup .verdictEngine) s = .next t ∧ t.engine.flight = some g ∧
      t = { s.settled with
        engine := { s.engine with flight := some g }
        rounds := t.rounds
        check := CheckUnit.choose { s.check with engineJob := t.check.engineJob }
        deny := DenyUnit.advance { s.deny with
          sweep := t.deny.sweep, dayWaiting := none, serving := none, engineLookup := none }
        notice := { s.notice with noteN := !t.anyPending } } ∧
      (∀ e, denyHit s.deny.list media day = some e →
        g = { f with stage := .judged .revoked, detail := 0#8, denyReason := e.reason } ∧
        t.rounds = s.rounds ∧ t.check = s.check.choose) ∧
      (∀ e, denyHit s.deny.list media day = none →
        roundEntry s.rounds (Ticket.ofImage (s.cellBody f.cell)).mediaId = some e →
        t.rounds = s.rounds.map (fun x => if x.mediaId = (Ticket.ofImage (s.cellBody f.cell)).mediaId
          then { x with presented := if x.presented < 255 then x.presented + 1 else 255 } else x) ∧
        ((s.inspectParams f.cell).presentation = 0 →
          g = { f with stage := .judged .passback, detail := 0#8
                       presented := if e.presented < 255 then e.presented + 1 else 255 } ∧
          t.check = s.check.choose) ∧
        ((s.inspectParams f.cell).presentation ≠ 0 →
          g = { f with stage := g.stage, image := g.image, detail := e.verdict.code, storedAmount := e.amount
                       sequence := e.sequence
                       presented := if e.presented < 255 then e.presented + 1 else 255 } ∧
          g.verdict = some .repeat) ∧
        (f.unformed → g.coveredCount = 0 ∧ g.grace = false ∧ g.timeUnchecked = false ∧ g.consumed = false ∧
          g.denyReason = 0)) ∧
      (denyHit s.deny.list media day = none →
        roundEntry s.rounds (Ticket.ofImage (s.cellBody f.cell)).mediaId = none → t.rounds = s.rounds)

/-- A medium that neither list holds is judged by time, rides and coverage: NOT_YET_VALID, EXPIRED, EXHAUSTED for a
RIDES credential that needs a ride and holds none, and then by its zones or its check-in stop. TIME_UNCHECKED is set
exactly where the time was not checked, GRACE stays from the time stage on, and C is the count of covered zones, or T of
an accepted CHECKIN, and stays 0 in every other verdict. -/
def Obligations.DenyLookupJudgesFreshMedium : Prop :=
  (∀ (s : State) (f : Flight) (media day : Nat) (k : Ticket),
    (s.deny.choose.serving = some (.lookup none) ∨ s.deny.choose.serving = some (.lookup (some .verdictEngine))) →
    s.deny.engineLookup = some (media, day) → s.engine.flight = some f → f.stage = .deny → f.unformed →
    denyHit s.deny.list media day = none → k = Ticket.ofImage (s.cellBody f.cell) →
    roundEntry s.rounds k.mediaId = none →
    ∃ t g, exec (.denyLookup .verdictEngine) s = .next t ∧ t.engine.flight = some g ∧
      g.cell = f.cell ∧ g.snap = f.snap ∧ g.sane = f.sane ∧ g.denyReason = 0 ∧ g.presented = 0 ∧
      (timeStage s.mem.header f.snap k = .notYetValid → g = { f with stage := .judged .notYetValid, detail := 0#8 }) ∧
      (∀ d, timeStage s.mem.header f.snap k = .expired d → g = { f with stage := .judged .expired, detail := d }) ∧
      (∀ grace unchecked, (timeStage s.mem.header f.snap k = .pass grace ∧ unchecked = false ∨
          timeStage s.mem.header f.snap k = .unchecked ∧ grace = false ∧ unchecked = true) →
        g.grace = grace ∧ g.timeUnchecked = unchecked ∧
        (k.product = 1 → ¬ (k.markTrain = s.mem.header.train ∧ k.markDay = f.snap.serviceDay) →
          k.ridesRemaining = 0 →
          g = { f with stage := .judged .exhausted, detail := 0#8, grace := grace, timeUnchecked := unchecked }) ∧
        (¬ (k.product = 1 ∧ ¬ (k.markTrain = s.mem.header.train ∧ k.markDay = f.snap.serviceDay) ∧
            k.ridesRemaining = 0) →
          (∀ a b c, k.product ≠ 3 → f.slices = some (a, b) →
            c = countCovered f.zones (coveredZones k.zoneMask a b) →
            g.coveredCount = c ∧ g.zones = f.zones ∧
            (c = 0 → g.verdict = some .noCover ∧ g.detail = 0x01#8) ∧
            (0 < c → c < f.zones.length → g.verdict = some .shortfall ∧ g.detail = 0#8) ∧
            (0 < c → f.zones.length ≤ c →
              g.verdict = some (if grace then .validGrace else .valid) ∧ g.detail = 0#8)) ∧
          (k.product = 3 → s.mem.findStop k.checkinStop = none →
            g.verdict = some .noCover ∧ g.detail = 0x02#8 ∧ g.zones = f.zones ∧ g.coveredCount = 0) ∧
          (∀ i b a, k.product = 3 → s.mem.findStop k.checkinStop = some i → f.ride = some (b, a) →
            ((s.mem.header.ahead i f.snap.stop || s.mem.header.ahead i a) = true →
              g.verdict = some .noCover ∧ g.detail = 0x03#8 ∧ g.zones = f.zones ∧ g.coveredCount = 0) ∧
            ((s.mem.header.ahead i f.snap.stop || s.mem.header.ahead i a) = false →
              g.verdict = some (if grace then .validGrace else .valid) ∧ g.detail = 0#8 ∧
              g.ride = some (i, a) ∧ g.zones = s.mem.rideZones i a ∧ g.coveredCount = g.zones.length))))) ∧
  ∀ (m : Memory) (code i : Nat), m.findStop code = some i ↔
    i < m.header.stops ∧ (m.route i).code = code ∧ ∀ j, j < i → (m.route j).code ≠ code

/-- A new mark: the image under composition carries the train, the service day, the snapshot minute and the counter's
next value, one ride less exactly when a ride is due, and every other field as presented; its compose job is asked
for. -/
def Obligations.ValidVerdictComposesMark : Prop :=
  ∀ (s : State) (f : Flight) (media day : Nat) (k : Ticket),
    (s.deny.choose.serving = some (.lookup none) ∨ s.deny.choose.serving = some (.lookup (some .verdictEngine))) →
    s.deny.engineLookup = some (media, day) → s.engine.flight = some f → f.stage = .deny →
    denyHit s.deny.list media day = none → k = Ticket.ofImage (s.cellBody f.cell) →
    roundEntry s.rounds k.mediaId = none → s.engine.counter ≤ 255 → f.snap.serviceDay ≤ 65535 →
    f.snap.minute ≤ 1439 →
    ∃ t g, exec (.denyLookup .verdictEngine) s = .next t ∧ t.engine.flight = some g ∧
      ∀ v, g.verdict = some v → v ∈ [.valid, .validGrace, .shortfall] →
        ∃ img due, g.stage = .composing v ∧ g.image = some img ∧ t.check.engineJob = some (img.take 30) ∧
          g.sequence = (if s.engine.counter = 255 then 1 else s.engine.counter + 1) ∧
          (due = true ↔ k.product = 1 ∧ ¬ (k.markTrain = s.mem.header.train ∧ k.markDay = f.snap.serviceDay)) ∧
          g.consumed = due ∧ img.length = 32 ∧
          Ticket.ofImage img = { k with
            ridesRemaining := if due then k.ridesRemaining - 1 else k.ridesRemaining
            markTrain := s.mem.header.train
            markDay := f.snap.serviceDay
            markMinute := f.snap.minute
            markSequence := g.sequence }

/-- The consumption guard of a RECHECK found, by the rows of Table 5-2: no image, or the image with the entry's
sequence, the minute of the RECHECK and, for a consumed ride that the medium did not lose, one ride less. -/
def Obligations.RepeatFollowsConsumptionGuard : Prop :=
  ∀ (s : State) (f : Flight) (media day : Nat) (k : Ticket) (e : RoundEntry),
    (s.deny.choose.serving = some (.lookup none) ∨ s.deny.choose.serving = some (.lookup (some .verdictEngine))) →
    s.deny.engineLookup = some (media, day) → s.engine.flight = some f → f.stage = .deny → f.image = none →
    denyHit s.deny.list media day = none → k = Ticket.ofImage (s.cellBody f.cell) →
    roundEntry s.rounds k.mediaId = some e → (s.inspectParams f.cell).presentation = 1 → e.sequence ≤ 255 →
    f.snap.serviceDay ≤ 65535 → f.snap.minute ≤ 1439 →
    ∃ t g, exec (.denyLookup .verdictEngine) s = .next t ∧ t.engine.flight = some g ∧
      t.engine.counter = s.engine.counter ∧
      ((e.sequence = 0 ∨
          k.markTrain = s.mem.header.train ∧ k.markDay = f.snap.serviceDay ∧ k.markSequence = e.sequence ∨
          e.consumed = true ∧ k.product = 1 ∧ k.ridesRemaining = 0) →
        g.stage = .judged .repeat ∧ g.image = none ∧ t.check = s.check.choose) ∧
      (e.sequence ≠ 0 →
        ¬ (k.markTrain = s.mem.header.train ∧ k.markDay = f.snap.serviceDay ∧ k.markSequence = e.sequence) →
        ¬ (e.consumed = true ∧ k.product = 1 ∧ k.ridesRemaining = 0) →
        ∃ img, g.stage = .composing .repeat ∧ g.image = some img ∧ t.check.engineJob = some (img.take 30) ∧
          img.length = 32 ∧
          Ticket.ofImage img = { k with
            ridesRemaining := if e.consumed = true ∧ k.product = 1 then k.ridesRemaining - 1 else k.ridesRemaining
            markTrain := s.mem.header.train
            markDay := f.snap.serviceDay
            markMinute := f.snap.minute
            markSequence := e.sequence })

/-- The completion event posts the answer of Table 12-3 with the write-back image where one was composed, moves the
counter with a new mark, holds the FIRST latch in FIRST mode, and frees the engine; nothing else of the machine
changes but the round list, the capture and the mirror. -/
def Obligations.InspectCompletionPosts : Prop :=
  ∀ (s : State) (f : Flight) (v : Verdict) (k : Ticket) (cls : Nat) (flags : Byte), s.memoryCanonical →
    s.engine.flight = some f → f.stage = .judged v → s.kindOf f.cell = some .inspect →
    k = Ticket.ofImage (s.cellBody f.cell) →
    cls = (if v ∈ [.noService, .badRequest, .aborted] then 0
      else if (s.inspectParams f.cell).override ≠ 0xFF then (s.inspectParams f.cell).override
      else if f.sane = true ∧ k.fareClass ≤ 7 then k.fareClass else 0) →
    flags.toNat < 64 → flags.getLsbD 0 = f.image.isSome → flags.getLsbD 1 = f.consumed →
    flags.getLsbD 2 = f.grace → flags.getLsbD 3 = f.timeUnchecked →
    flags.getLsbD 4 = (f.sane && decide (7 < k.fareClass)) →
    flags.getLsbD 5 = decide (v ∉ [.noService, .badRequest, .aborted] ∧ (s.inspectParams f.cell).override ≠ 0xFF) →
    ∃ t presented, exec .inspectCompletion s = .next t ∧
      t = { s.settled with
        mem := t.mem
        engine := { flight := none
                    counter := if v ∈ [.valid, .validGrace, .shortfall] then f.sequence else s.engine.counter }
        journey := { s.journey with capture := t.journey.capture }
        rounds := t.rounds
        notice := { s.notice with
          flags := t.notice.flags
          latch := if s.notice.mode = AnswerMode.first ∧ s.notice.latch = none then some f.cell
            else s.notice.latch }.withCounts t.notice } ∧
      s.sameFlagsBut t [.firstFault] ∧
      t.answers f.cell ([v.code, f.detail] ++
        le16 (s.mem.amount v f.zones.length f.coveredCount cls f.storedAmount) ++
        [byteOf f.zones.length, byteOf f.coveredCount, byteOf cls, flags] ++ le16 f.snap.round ++
        [byteOf (if f.snap.kind = .nowhere then 0xFF else f.snap.stop), byteOf f.snap.kind.code,
          byteOf f.sequence, byteOf f.denyReason] ++
        le16 f.snap.day ++ le16 f.snap.minute ++ [byteOf presented]) ∧
      (∀ img, f.image = some img → img.length = 32 → t.cellBody f.cell = img) ∧
      s.sameBytesBut t (fun a => a = cellBase f.cell ∨ inAnswer f.cell a ∨ inMirror a ∨
        (f.image.isSome ∧ inBody f.cell a))

/-- The round list and the capture at the completion event. One of the eight inserted verdicts of the current round
enters at the newest end with count 1, the oldest of 256 leaving first; a REVOKED medium already there gains a count
and no second entry; an insert of an earlier round is dropped. A fault-class verdict fills an ARMED capture from the
snapshot and sets FIRST_FAULT; a HELD capture refuses it. -/
def Obligations.InspectCompletionRecords : Prop :=
  (∀ (s : State) (f : Flight) (v : Verdict) (media : Nat) (inserted : Bool), s.memoryCanonical →
    s.engine.flight = some f → f.stage = .judged v → media = (Ticket.ofImage (s.cellBody f.cell)).mediaId →
    (inserted = true ↔
      v ∈ [.revoked, .notYetValid, .expired, .exhausted, .noCover, .shortfall, .valid, .validGrace]) →
    ∃ t, exec .inspectCompletion s = .next t ∧
      (inserted = false → t.rounds = s.rounds ∧ t.cellByte f.cell 58 = byteOf f.presented) ∧
      (inserted = true → f.snap.round ≠ s.journey.round → t.rounds = s.rounds ∧ t.cellByte f.cell 58 = 0#8) ∧
      (∀ e, v = .revoked → f.snap.round = s.journey.round → roundEntry s.rounds media = some e →
        t.rounds = s.rounds.map (fun x => if x.mediaId = media
          then { x with presented := if x.presented < 255 then x.presented + 1 else 255 } else x) ∧
        t.cellByte f.cell 58 = byteOf (if e.presented < 255 then e.presented + 1 else 255)) ∧
      (inserted = true → f.snap.round = s.journey.round → roundEntry s.rounds media = none →
        ∃ e, t.rounds = (if s.rounds.length < 256 then s.rounds else s.rounds.tail) ++ [e] ∧
          e.mediaId = media ∧ e.verdict = v ∧ e.consumed = f.consumed ∧ e.sequence = f.sequence ∧
          e.presented = 1 ∧ le16 e.amount = [t.cellByte f.cell 42, t.cellByte f.cell 43] ∧
          t.cellByte f.cell 58 = 1#8)) ∧
  (∀ (s : State) (f : Flight) (v : Verdict) (fault : Bool), s.memoryCanonical →
    s.engine.flight = some f → f.stage = .judged v →
    (fault = true ↔ v ∈ [.shortfall, .noCover, .expired, .notYetValid, .exhausted, .revoked, .passback, .unreadable,
      .notAccepted]) →
    ∃ t, exec .inspectCompletion s = .next t ∧
      (fault = true → s.journey.capture = none → t.flag .firstFault = true ∧
        ∃ r, t.journey.capture = some r ∧ r.round = f.snap.round ∧ r.stop = f.snap.stop ∧ r.kind = f.snap.kind ∧
          r.day = f.snap.day ∧ r.minute = f.snap.minute ∧ r.cell = f.cell ∧
          r.tag = (s.cellByte f.cell 2, s.cellByte f.cell 3) ∧ r.verdict = v ∧
          le16 r.amount = [t.cellByte f.cell 42, t.cellByte f.cell 43]) ∧
      (fault = false ∨ s.journey.capture ≠ none →
        t.journey.capture = s.journey.capture ∧ t.notice.flags = s.notice.flags))

/-! ### The deny list unit -/

/-- An ADD, DELETE or CLEAR edit is applied whole: the entry of its medium is the edit's, or gone, and every other is
as before. The batch then goes on: DONE after the last record, the next record handed over, or the next record
stopping the batch with its detail and index. An ADD of an absent medium to 4,096 entries is not applied: TABLE_FULL
and DENY_FULL. A DAY_CHANGE that waited for the edit begins its sweep on the list as the edit left it, before any
further edit. A lookup that waited is in service when the edit has completed; that the next edit begins with the next
event is the model's choice (log entry 9). A record is judged by its op and its reason, read from its place in Table
12-9. -/
def Obligations.EditAppliesAndBatchGoesOn : Prop :=
  (∀ (s : State) (n : Fin 32) (offset count i : Nat) (c : Instr) (entry : Nat → Option DenyEntry)
    (lookup : Option DenyOp),
    s.memoryCanonical → s.denyListSound →
    s.deny.choose.serving = some .edit → s.table.held = some (n, .denyBatch offset count i true) →
    s.kindOf n = some .denyBatch →
    (∃ media reason expiry, c = .add ∧ s.deny.edit = some (.add media reason expiry) ∧
        ((denyEntry s.deny.list media).isSome ∨ s.deny.list.length < 4096) ∧
        entry = fun k => if k = media then some { mediaId := media, reason := reason, expiry := expiry }
          else denyEntry s.deny.list k) ∨
      (∃ media, c = .delete ∧ s.deny.edit = some (.delete media) ∧
        entry = fun k => if k = media then none else denyEntry s.deny.list k) ∨
      (c = .clear ∧ s.deny.edit = some .clear ∧ entry = fun _ => none) →
    lookup = (if s.deny.engineLookup.isSome && s.deny.probeLookup.isSome then some (.lookup none)
      else if s.deny.engineLookup.isSome then some (.lookup (some .verdictEngine))
      else if s.deny.probeLookup.isSome then some (.lookup (some .tableUnit))
      else none) →
    ∃ t, exec c s = .next t ∧
      t = { s.settled with
        mem := t.mem
        table := { s.table with held := t.table.held }
        deny := { s.deny with
          list := t.deny.list, sweep := t.deny.sweep, dayWaiting := none, edit := t.deny.edit
          serving := t.deny.serving }
        notice := s.notice.withCounts t.notice } ∧
      t.deny.serving = lookup ∧ (∀ k, denyEntry t.deny.list k = entry k) ∧ t.denyListSound ∧
      (s.deny.dayWaiting = none → t.deny.sweep = s.deny.sweep) ∧
      (∀ day, s.deny.dayWaiting = some day →
        t.deny.sweep = t.deny.list.head?.map fun e => { day := day, position := e.mediaId }) ∧
      (count ≤ i + 1 → t.table.held = none ∧ t.deny.edit = none ∧
        t.answers n ([0x01#8, 0#8] ++ le16 (i + 1) ++ [0xFF#8, 0xFF#8] ++ le16 t.deny.list.length)) ∧
      (∀ e, i + 1 < count → (s.mem.batchRecord offset (i + 1)).judge = .ok e → Config.bulkBase ≤ offset →
        t.deny.edit = some e ∧ t.table.held = some (n, .denyBatch offset count (i + 1) true)) ∧
      (∀ d, i + 1 < count → (s.mem.batchRecord offset (i + 1)).judge = .error d → Config.bulkBase ≤ offset →
        t.table.held = none ∧ t.deny.edit = none ∧
        t.answers n ([0x41#8, d] ++ le16 (i + 1) ++ le16 (i + 1) ++ le16 t.deny.list.length)) ∧
      s.sameBytesBut t (fun a => a = cellBase n ∨ inAnswer n a ∨ inMirror a)) ∧
  ((∀ (s : State) (n : Fin 32) (offset count i media reason expiry : Nat)
    (lookup : Option DenyOp), s.memoryCanonical →
    s.deny.choose.serving = some .edit → s.table.held = some (n, .denyBatch offset count i true) →
    s.kindOf n = some .denyBatch → s.deny.edit = some (.add media reason expiry) →
    denyEntry s.deny.list media = none → 4096 ≤ s.deny.list.length →
    lookup = (if s.deny.engineLookup.isSome && s.deny.probeLookup.isSome then some (.lookup none)
      else if s.deny.engineLookup.isSome then some (.lookup (some .verdictEngine))
      else if s.deny.probeLookup.isSome then some (.lookup (some .tableUnit))
      else none) →
    ∃ t, exec .add s = .next t ∧
      t = { s.settled with
        mem := t.mem
        table := { s.table with held := none }
        deny := { s.deny with sweep := t.deny.sweep, dayWaiting := none, edit := none, serving := lookup }
        notice := { s.notice with flags := t.notice.flags }.withCounts t.notice } ∧
      t.flag .denyFull = true ∧ s.sameFlagsBut t [.denyFull] ∧
      t.answers n ([0x45#8, 0#8] ++ le16 i ++ le16 i ++ le16 s.deny.list.length) ∧
      s.sameBytesBut t (fun a => a = cellBase n ∨ inAnswer n a)) ∧
  ((∀ r : BatchRecord,
    (r.op = 1 → 1 ≤ r.reason → r.reason ≤ 15 → r.judge = .ok (.add r.mediaId r.reason r.expiry)) ∧
    (r.op = 1 → r.reason = 0 ∨ 15 < r.reason → r.judge = .error 0x05#8) ∧
    (r.op = 2 → r.judge = .ok (.delete r.mediaId)) ∧ (r.op = 3 → r.judge = .ok .clear) ∧
    (r.op ≠ 1 → r.op ≠ 2 → r.op ≠ 3 → r.judge = .error 0x04#8)) ∧
  ∀ (m : Memory) (b : Nat → Nat) (offset i base : Nat), (∀ a, b a = (m.read a).toNat) →
    base = offset + 2 + 12 * i →
    m.batchRecord offset i = {
      op := b base, reason := b (base + 1), expiry := b (base + 2) + 256 * b (base + 3)
      mediaId := ((((((b (base + 4) * 256 + b (base + 5)) * 256 + b (base + 6)) * 256 + b (base + 7)) * 256 +
        b (base + 8)) * 256 + b (base + 9)) * 256 + b (base + 10)) }))

/-- One sweep step judges the entry at the sweep position, removes it when it has expired before the sweep day, and
moves to the next entry by media ID, or ends the sweep after the last. A DAY_CHANGE that waited for the step restarts
the sweep at the lowest entry left. With no lookup waiting the unit is free until the next step begins, and a DAY_CHANGE
that comes between two steps restarts the sweep at once; that the next step begins at a moment of its own is the model's
choice (log entry 9). -/
def Obligations.SweepStepJudgesOneEntry : Prop :=
  ∀ (s : State) (w : Sweep) (e : DenyEntry) (before after : List DenyEntry), s.denyListSound →
    s.deny.choose.serving = some .sweepStep → s.deny.sweep = some w → s.deny.list = before ++ e :: after →
    e.mediaId = w.position →
    ∃ t, exec .sweepStep s = .next t ∧
      t = { s.settled with
        mem := t.mem
        deny := DenyUnit.advance { s.deny with
          list := if e.expiry ≠ 0xFFFF ∧ e.expiry < w.day then before ++ after else s.deny.list
          sweep := t.deny.sweep, dayWaiting := none, serving := none }
        notice := { s.notice with noteN := !t.anyPending } } ∧
      (s.deny.dayWaiting = none →
        t.deny.sweep = after.head?.map fun x => { day := w.day, position := x.mediaId }) ∧
      (∀ day, s.deny.dayWaiting = some day →
        t.deny.sweep = t.deny.list.head?.map fun x => { day := day, position := x.mediaId }) ∧
      (s.deny.engineLookup = none → s.deny.probeLookup = none → t.deny.sweep.isSome → t.deny.serving = none ∧
        ∀ day, (t.deny.dayChange day).sweep = t.deny.list.head?.map fun x => { day := day, position := x.mediaId }) ∧
      s.sameBytesBut t inMirror

/-- A DAY_CHANGE begins or restarts the sweep at the lowest entry against its day when the unit is free, and waits for
the operation in service otherwise; of two that wait the newer stands (the model's choice, log entry 10). A free unit
serves a waiting lookup, then a sweep step, then the waiting edit. Where an edit completes first, the batch's next
edit waits behind the sweep; where the DAY_CHANGE comes first, the edit in service completes before the first step. A
waiting edit is served by no command while a sweep is in progress (log entry 2). A command that brings the unit no
request and ends none of its work leaves all this alone, and a free unit begins with it what waited, but no sweep step
(log entry 9). A sweep of a list of n entries ends in n steps, at once on an empty list, and leaves exactly the
entries not expired before its day. -/
def Obligations.DayChangeSweepsList : Prop :=
  (∀ (u : DenyUnit) (day : Nat),
    u.choose = { u with
      serving :=
      if u.serving.isSome then u.serving
      else if u.engineLookup.isSome && u.probeLookup.isSome then some (.lookup none)
      else if u.engineLookup.isSome then some (.lookup (some .verdictEngine))
      else if u.probeLookup.isSome then some (.lookup (some .tableUnit))
      else if u.sweep.isSome then some .sweepStep
      else if u.edit.isSome then some .edit
      else none } ∧
    u.advance = (if u.serving = none ∧ u.engineLookup = none ∧ u.probeLookup = none ∧ u.sweep.isSome then u
      else u.choose) ∧
    (u.serving = none → u.dayChange day = { u with
      sweep := u.list.head?.map fun e => { day := day, position := e.mediaId } }) ∧
    (u.serving ≠ none → u.dayChange day = { u with dayWaiting := some day } ∧
      (u.dayChange day).complete = { u with
        sweep := u.list.head?.map fun e => { day := day, position := e.mediaId }
        dayWaiting := none, serving := none } ∧
      (u.dayWaiting = none → u.complete = { u with serving := none } ∧
        u.complete.dayChange day = { u with
          sweep := u.list.head?.map fun e => { day := day, position := e.mediaId }, serving := none } ∧
        (u.list ≠ [] → (u.complete.dayChange day).choose.serving ≠ some .edit)))) ∧
  ((∀ (s : State) (c : Instr), c ∈ [Instr.add, .delete, .clear] → s.deny.sweep.isSome →
    s.deny.serving ≠ some .edit → exec c s = .next s) ∧
  ((∀ (c : Instr) (s t : State), exec c s = .next t → c.resets = false →
    c ∉ [.clk32Edge, .secondAdvance, .clockSet, .denyProbe, .checkJobEnd, .denyLookup .verdictEngine,
      .denyLookup .tableUnit, .add, .delete, .clear, .sweepStep] →
    t = s ∨ t.deny = s.deny.advance) ∧
  ∀ (u : DenyUnit) (day : Nat), (u.list.map DenyEntry.mediaId).Pairwise (· < ·) →
    (DenyUnit.sweepOnce^[u.list.length] (u.beginSweep day)).sweep = none ∧
    (DenyUnit.sweepOnce^[u.list.length] (u.beginSweep day)).list =
      u.list.filter (fun e => decide (e.expiry = 0xFFFF ∨ day ≤ e.expiry)) ∧
    ∀ k, k < u.list.length → (DenyUnit.sweepOnce^[k] (u.beginSweep day)).sweep.isSome))

/-! ### The journey unit -/

/-- DEPART from a stop enters the section behind it; in section it reports NO_CHANGE. -/
def Obligations.DepartEntersSection : Prop :=
  ∀ (s : State) (n : Fin 32), s.memoryCanonical → s.eventHead 1#8 = some n → s.table.service = .inService →
    s.journey.kind ≠ .nowhere →
    ∃ t, exec .depart s = .next t ∧
      t = { s.settled with
        mem := t.mem
        intake := { s.intake with journey := s.intake.journey.tail }
        journey := { s.journey with kind := .inSection }
        notice := s.notice.withCounts t.notice } ∧
      t.answers n ([0x01#8, if s.journey.kind = .inSection then 0x01#8 else 0x00#8, 0x02#8, byteOf s.journey.stop,
        0x02#8] ++ le16 s.journey.round ++ [0#8]) ∧
      s.sameBytesBut t (fun a => a = cellBase n ∨ inAnswer n a ∨ (s.journey.kind = .atStop ∧ inMirror a))

/-- An ARRIVE at a stop ahead, or at the next stop when none is given: the train stands there, one boundary is made
for each BOUNDARY stop on the path, STOP_REACHED is set, and at the terminus the service is TERMINATED. -/
def Obligations.ArriveMovesTrain : Prop :=
  ∀ (s : State) (n : Fin 32) (target count : Nat), s.memoryCanonical → s.eventHead 2#8 = some n →
    s.table.service = .inService →
    (s.journeyStop n = none ∧ target = s.mem.header.next s.journey.stop ∨
      s.journeyStop n = some target ∧ target < s.mem.header.stops ∧
        s.mem.header.ahead target s.journey.stop = true) →
    count = s.mem.boundaryCount (s.mem.header.stopsBetween (s.mem.header.next s.journey.stop) target) →
    s.journey.round + count ≤ 65535 →
    ∃ t, exec .arrive s = .next t ∧
      t = { s.settled with
        mem := t.mem
        intake := { s.intake with journey := s.intake.journey.tail }
        journey := { s.journey with
          kind := .atStop, stop := target, round := s.journey.round + count
          capture := if count = 0 then s.journey.capture else none }
        table := { s.table with
          service := if target = s.mem.header.terminus then .terminated else .inService }
        rounds := if count = 0 then s.rounds else []
        notice := { s.notice with flags := t.notice.flags }.withCounts t.notice } ∧
      s.sameFlagsBut t [.stopReached, .boundary, .terminus, .firstFault] ∧
      t.flag .stopReached = true ∧ t.flag .boundary = (s.flag .boundary || decide (0 < count)) ∧
      t.flag .terminus = (s.flag .terminus || decide (target = s.mem.header.terminus)) ∧
      t.flag .firstFault = (s.flag .firstFault && decide (count = 0)) ∧
      t.answers n ([0x01#8, 0x00#8, if target = s.mem.header.terminus then 0x03#8 else 0x02#8, byteOf target,
        0x01#8] ++ le16 (s.journey.round + count) ++ [byteOf count]) ∧
      s.sameBytesBut t (fun a => a = cellBase n ∨ inAnswer n a ∨ inMirror a)

/-- A PASS in section, the stop ahead not the terminus (R128; that the stop ahead, and not the one after it, is what
counts for R123 too is the model's choice, log entry 24): the train runs on in the next section, with one boundary when
the stop passed is flagged, and no STOP_REACHED. -/
def Obligations.PassMovesSection : Prop :=
  ∀ (s : State) (n : Fin 32) (next count : Nat), s.memoryCanonical → s.eventHead 3#8 = some n →
    s.table.service = .inService → s.journey.kind = .inSection → next = s.mem.header.next s.journey.stop →
    next ≠ s.mem.header.terminus → count = (if s.mem.isBoundary next then 1 else 0) →
    s.journey.round + count ≤ 65535 →
    ∃ t, exec .pass s = .next t ∧
      t = { s.settled with
        mem := t.mem
        intake := { s.intake with journey := s.intake.journey.tail }
        journey := { s.journey with
          stop := next, round := s.journey.round + count
          capture := if count = 0 then s.journey.capture else none }
        rounds := if count = 0 then s.rounds else []
        notice := { s.notice with flags := t.notice.flags }.withCounts t.notice } ∧
      s.sameFlagsBut t [.boundary, .firstFault] ∧
      t.flag .boundary = (s.flag .boundary || decide (0 < count)) ∧
      t.flag .firstFault = (s.flag .firstFault && decide (count = 0)) ∧
      t.answers n ([0x01#8, 0x00#8, 0x02#8, byteOf next, 0x02#8] ++ le16 (s.journey.round + count) ++
        [byteOf count]) ∧
      s.sameBytesBut t (fun a => a = cellBase n ∨ inAnswer n a ∨ inMirror a)

/-- A SET to a stop of the route, AT_STOP or IN_SECTION short of the terminus: the position is as stated, ahead or
behind, with no boundary, the round, the round list and the capture as they stood; AT_STOP at the terminus is
TERMINATED. -/
def Obligations.SetPlacesTrain : Prop :=
  ∀ (s : State) (n : Fin 32) (stop : Nat) (kind : PosKind), s.memoryCanonical → s.eventHead 4#8 = some n →
    s.table.service = .inService → s.journeyStop n = some stop → stop < s.mem.header.stops →
    s.cellByte n 10 = byteOf kind.code → kind ≠ .nowhere →
    ¬ (kind = .inSection ∧ stop = s.mem.header.terminus) →
    ∃ t, exec .set s = .next t ∧
      t = { s.settled with
        mem := t.mem
        intake := { s.intake with journey := s.intake.journey.tail }
        journey := { s.journey with kind := kind, stop := stop }
        table := { s.table with
          service := if kind = .atStop ∧ stop = s.mem.header.terminus then .terminated else .inService }
        notice := { s.notice with flags := t.notice.flags }.withCounts t.notice } ∧
      s.sameFlagsBut t [.terminus] ∧
      t.flag .terminus = (s.flag .terminus || decide (kind = .atStop ∧ stop = s.mem.header.terminus)) ∧
      t.answers n ([0x01#8, 0x00#8, if kind = .atStop ∧ stop = s.mem.header.terminus then 0x03#8 else 0x02#8,
        byteOf stop, byteOf kind.code] ++ le16 s.journey.round ++ [0#8]) ∧
      s.sameBytesBut t (fun a => a = cellBase n ∨ inAnswer n a ∨ inMirror a)

/-- The rows of Table 7-1, in their order: a JOURNEY request that a row refuses is answered with its outcome and
detail and the position and round as they stood, and changes nothing but its cell. -/
def Obligations.JourneyRefusalsChangeNothing : Prop :=
  ∀ (s : State) (n : Fin 32) (c : Instr) (event outcome detail : Byte), s.memoryCanonical →
    s.journeyHead .journey = some n → s.journeyEvent n = event →
    (event = 1#8 ∧ c = .depart ∨ event = 2#8 ∧ c = .arrive ∨ event = 3#8 ∧ c = .pass ∨ event = 4#8 ∧ c = .set ∨
      event ∉ [1#8, 2#8, 3#8, 4#8] ∧ c = .journeyBadEvent) →
    ((s.table.service = .noService ∨ s.table.service = .checking) ∧ outcome = 0x43#8 ∧ detail = 0x00#8 ∨
      s.table.service = .terminated ∧ outcome = 0x48#8 ∧ detail = 0x00#8 ∨
      s.table.service = .inService ∧ outcome = 0x41#8 ∧
        (event ∉ [1#8, 2#8, 3#8, 4#8] ∧ detail = 0x01#8 ∨
          (event = 2#8 ∨ event = 4#8) ∧ (∃ i, s.journeyStop n = some i ∧ s.mem.header.stops ≤ i) ∧
            detail = 0x02#8 ∨
          event = 2#8 ∧ (∃ i, s.journeyStop n = some i ∧ i < s.mem.header.stops ∧
            s.mem.header.ahead i s.journey.stop = false) ∧ detail = 0x03#8 ∨
          event = 2#8 ∧ (∀ i, s.journeyStop n = some i → i < s.mem.header.stops ∧
              s.mem.header.ahead i s.journey.stop = true) ∧
            65535 < s.journey.round + s.mem.boundaryCount (s.mem.header.stopsBetween
              (s.mem.header.next s.journey.stop) (s.arriveTarget n)) ∧ detail = 0x09#8 ∨
          event = 3#8 ∧ s.journey.kind ≠ .inSection ∧ detail = 0x04#8 ∨
          event = 3#8 ∧ s.journey.kind = .inSection ∧
            s.mem.header.next s.journey.stop = s.mem.header.terminus ∧ detail = 0x05#8 ∨
          event = 3#8 ∧ s.journey.kind = .inSection ∧ s.mem.header.next s.journey.stop ≠ s.mem.header.terminus ∧
            s.mem.isBoundary (s.mem.header.next s.journey.stop) = true ∧ 65535 ≤ s.journey.round ∧
            detail = 0x09#8 ∨
          event = 4#8 ∧ s.journeyStop n = none ∧ detail = 0x06#8 ∨
          event = 4#8 ∧ (∃ i, s.journeyStop n = some i ∧ i < s.mem.header.stops) ∧
            s.cellByte n 10 ≠ 1#8 ∧ s.cellByte n 10 ≠ 2#8 ∧ detail = 0x07#8 ∨
          event = 4#8 ∧ s.journeyStop n = some s.mem.header.terminus ∧
            s.mem.header.terminus < s.mem.header.stops ∧ s.cellByte n 10 = 2#8 ∧ detail = 0x08#8)) →
    ∃ t, exec c s = .next t ∧
      t = { s.settled with
        mem := t.mem
        intake := { s.intake with journey := s.intake.journey.tail }
        notice := s.notice.withCounts t.notice } ∧
      t.answers n ([outcome, detail, byteOf s.table.service.code,
        byteOf (if s.journey.kind = .nowhere then 0xFF else s.journey.stop), byteOf s.journey.kind.code] ++
        le16 s.journey.round ++ [0#8]) ∧
      s.sameBytesBut t (fun a => a = cellBase n ∨ inAnswer n a)

/-! ### The table unit -/

/-- SERVICE_OPEN: refused under an open service and without a valid clock, the cell alone changing; otherwise the
service state is CHECKING, the cell is held TAKEN and the check of table 1 is asked for. That an idle check unit
begins it with the next event is the model's choice (log entry 9). -/
def Obligations.ServiceOpenTakesCell : Prop :=
  ∀ (s : State) (n : Fin 32), s.memoryCanonical → s.tableHead .serviceOpen = some n →
    s.table.service ≠ .checking →
    ∃ t, exec .serviceOpen s = .next t ∧
      t = { s.settled with
        mem := t.mem
        intake := { s.intake with table := s.intake.table.tail }
        table := t.table
        check := { s.check.choose with tableJob := t.check.tableJob }
        notice := s.notice.withCounts t.notice } ∧
      (s.table.service = .inService ∨ s.table.service = .terminated →
        t.table = s.table ∧ t.check = s.check.choose ∧ t.answers n [0x43#8, 0x01#8, 0#8, 0xFF#8] ∧
        s.sameBytesBut t (fun a => a = cellBase n ∨ inAnswer n a)) ∧
      (s.table.service = .noService → s.clock.valid = false →
        t.table = s.table ∧ t.check = s.check.choose ∧ t.answers n [0x43#8, 0x02#8, 0#8, 0xFF#8] ∧
        s.sameBytesBut t (fun a => a = cellBase n ∨ inAnswer n a)) ∧
      (s.table.service = .noService → s.clock.valid = true →
        t.table = { service := .checking, held := some (n, .serviceOpen 1 0xFF false) } ∧
        t.check.tableJob = some { base := 0x1000, length := 16, position := 0, remainder := 0xFFFF#16 } ∧
        t.cellState n = .taken ∧ s.sameBytesBut t (fun a => a = cellBase n ∨ inMirror a))

/-- The completion event of an open: the train AT_STOP at the origin in round 1, the service day fixed from the clock
and the day-change minute, the counter 0, the round list empty, the capture armed, the state IN_SERVICE, the cell
answered DONE with the service day and the clock. -/
def Obligations.ServiceOpenCompletes : Prop :=
  ∀ (s : State) (n : Fin 32) (table entry : Nat), s.memoryCanonical →
    s.table.held = some (n, .serviceOpen table entry true) → s.kindOf n = some .serviceOpen →
    ∃ t, exec .serviceOpenCompletion s = .next t ∧
      t = { s.settled with
        mem := t.mem
        engine := { s.engine with counter := 0 }
        journey := { s.journey with
          kind := .atStop, stop := s.mem.header.origin, round := 1
          serviceDay := if s.mem.header.dayChange ≤ s.clock.minute then s.clock.day else s.clock.day - 1
          capture := none }
        table := { service := .inService, held := none }
        rounds := []
        notice := { s.notice with flags := t.notice.flags }.withCounts t.notice } ∧
      t.flag .firstFault = false ∧ s.sameFlagsBut t [.firstFault] ∧
      t.answers n ([0x01#8, 0#8, 0#8, 0xFF#8] ++ le16 t.journey.serviceDay ++ le16 s.clock.day ++
        le16 s.clock.minute) ∧
      s.sameBytesBut t (fun a => a = cellBase n ∨ inAnswer n a ∨ inMirror a)

/-- SERVICE_CLOSE by the rows of Table 8-5: NOT_OPEN and the CHECKING row change the cell alone; with the verdict engine
idle the close completes at once; with an inspection in flight the cell is held TAKEN, and the close completes as
SERVICE_CLOSE_COMPLETION once the engine is idle, answered from the state just before. That a SERVICE_CLOSE_COMPLETION
while an inspection is in flight leaves the state as it stands is the model's reading (log entry 2). -/
def Obligations.ServiceCloseTakesOrCompletes : Prop :=
  (∀ (s : State) (n : Fin 32), s.memoryCanonical → s.tableHead .serviceClose = some n →
    ∃ t, exec .serviceClose s = .next t ∧
      (s.table.service = .noService ∨ s.table.service = .checking →
        t = { s.settled with
          mem := t.mem
          intake := { s.intake with table := s.intake.table.tail }
          notice := s.notice.withCounts t.notice } ∧
        t.answers n (if s.table.service = .noService then [0x01#8, 0x01#8, 0#8, 0#8, 0#8, 0xFF#8, 0#8]
          else [0x43#8]) ∧
        s.sameBytesBut t (fun a => a = cellBase n ∨ inAnswer n a)) ∧
      (s.table.service.isOpen = true → s.engine.flight.isSome →
        t = { s.settled with
          mem := t.mem
          intake := { s.intake with table := s.intake.table.tail }
          table := { s.table with held := some (n, .serviceClose) }
          notice := s.notice.withCounts t.notice } ∧
        t.cellState n = .taken ∧ s.sameBytesBut t (fun a => a = cellBase n)) ∧
      (s.table.service.isOpen = true → s.engine.flight = none →
        t = { s.settled with
          mem := t.mem
          intake := { s.intake with table := s.intake.table.tail }
          journey := { s.journey with kind := .nowhere, stop := 0, round := 0, serviceDay := 0, capture := none }
          table := { service := .noService, held := none }
          rounds := []
          notice := { s.notice with flags := t.notice.flags }.withCounts t.notice } ∧
        t.flag .firstFault = false ∧ s.sameFlagsBut t [.firstFault] ∧
        t.answers n ([0x01#8, 0#8, byteOf s.table.service.code] ++ le16 s.journey.round ++
          [byteOf (if s.journey.kind = .nowhere then 0xFF else s.journey.stop), byteOf s.journey.kind.code]) ∧
        s.sameBytesBut t (fun a => a = cellBase n ∨ inAnswer n a ∨ inMirror a))) ∧
  (∀ (s : State) (n : Fin 32), s.memoryCanonical → s.table.held = some (n, .serviceClose) →
    s.kindOf n = some .serviceClose →
    (s.engine.flight.isSome → exec .serviceCloseCompletion s = .next s) ∧
    (s.engine.flight = none → ∃ t, exec .serviceCloseCompletion s = .next t ∧
      t = { s.settled with
        mem := t.mem
        journey := { s.journey with kind := .nowhere, stop := 0, round := 0, serviceDay := 0, capture := none }
        table := { service := .noService, held := none }
        rounds := []
        notice := { s.notice with flags := t.notice.flags }.withCounts t.notice } ∧
      t.flag .firstFault = false ∧ s.sameFlagsBut t [.firstFault] ∧
      t.answers n ([0x01#8, 0#8, byteOf s.table.service.code] ++ le16 s.journey.round ++
        [byteOf (if s.journey.kind = .nowhere then 0xFF else s.journey.stop), byteOf s.journey.kind.code]) ∧
      s.sameBytesBut t (fun a => a = cellBase n ∨ inAnswer n a ∨ inMirror a)))

/-- DENY_BATCH: the range conditions in their order answer BAD_REQUEST with nothing applied and no guard; on a pass
the cell is held TAKEN, every byte of the extent is guarded and the check of the whole extent is asked for.
That an idle check unit begins it with the next event is the model's choice (log entry 9). -/
def Obligations.DenyBatchChecksRange : Prop :=
  ∀ (s : State) (n : Fin 32) (offset count : Nat), s.memoryCanonical → s.tableHead .denyBatch = some n →
    s.cellWord n 8 = offset → count = s.mem.read16 offset →
    ∃ t, exec .denyBatch s = .next t ∧
      t = { s.settled with
        mem := t.mem
        intake := { s.intake with table := s.intake.table.tail }
        table := { s.table with held := t.table.held }
        check := { s.check.choose with tableJob := t.check.tableJob }
        notice := s.notice.withCounts t.notice } ∧
      s.sameBytesBut t (fun a => a = cellBase n ∨ inAnswer n a) ∧
      (∀ d, ((offset < 0x3000 ∨ 0x7FFE < offset) ∧ d = 0x01#8 ∨
          0x3000 ≤ offset ∧ offset ≤ 0x7FFE ∧ (count = 0 ∨ 1024 < count) ∧ d = 0x02#8 ∨
          0x3000 ≤ offset ∧ offset ≤ 0x7FFE ∧ 1 ≤ count ∧ count ≤ 1024 ∧ 0x8000 < offset + 2 + 12 * count + 2 ∧
            d = 0x03#8) →
        t.table = s.table ∧ t.check = s.check.choose ∧
        t.answers n ([0x41#8, d, 0#8, 0#8, 0xFF#8, 0xFF#8] ++ le16 s.deny.list.length)) ∧
      (0x3000 ≤ offset → offset ≤ 0x7FFE → 1 ≤ count → count ≤ 1024 → offset + 2 + 12 * count + 2 ≤ 0x8000 →
        t.table.held = some (n, .denyBatch offset count 0 false) ∧ t.cellState n = .taken ∧
        s.sameBytesBut t (fun a => a = cellBase n) ∧
        t.check.tableJob = some { base := offset, length := 4 + 12 * count, position := 0
                                  remainder := 0xFFFF#16 } ∧
        ∀ a, offset ≤ a → a < offset + 4 + 12 * count → t.guarded a = true)

/-- A DENY-PROBE is held TAKEN while the lookup of its body's media ID waits. When it is served, on the clock's day, the
cell is answered in the same event, ABSENT, HIT or EXPIRED with what the entry holds, the list unchanged. -/
def Obligations.DenyProbeAsksAndIsAnswered : Prop :=
  (∀ (s : State) (n : Fin 32), s.memoryCanonical → s.tableHead .denyProbe = some n →
    ∃ t, exec .denyProbe s = .next t ∧
      t = { s.settled with
        mem := t.mem
        intake := { s.intake with table := s.intake.table.tail }
        table := { s.table with held := some (n, .denyProbe) }
        deny := DenyUnit.advance { s.deny with
          probeLookup := some ((List.range 7).foldl (fun v i => 256 * v + (s.cellByte n (8 + i)).toNat) 0) }
        notice := s.notice.withCounts t.notice } ∧
      (s.deny.serving = none → t.deny.serving = some (.lookup
        (if s.deny.engineLookup.isSome then none else some .tableUnit))) ∧
      t.cellState n = .taken ∧ s.sameBytesBut t (fun a => a = cellBase n)) ∧
  (∀ (s : State) (n : Fin 32) (media : Nat), s.memoryCanonical →
    (s.deny.choose.serving = some (.lookup none) ∨ s.deny.choose.serving = some (.lookup (some .tableUnit))) →
    s.deny.probeLookup = some media → s.table.held = some (n, .denyProbe) → s.kindOf n = some .denyProbe →
    ∃ t, exec (.denyLookup .tableUnit) s = .next t ∧
      t = { s.settled with
        mem := t.mem
        table := { s.table with held := none }
        deny := DenyUnit.advance { s.deny with
          sweep := t.deny.sweep, dayWaiting := none, serving := none, probeLookup := none }
        notice := s.notice.withCounts t.notice } ∧
      (denyEntry s.deny.list media = none →
        t.answers n ([0x01#8, 0x00#8, 0#8, 0#8, 0#8] ++ le16 s.clock.day ++ le16 s.deny.list.length)) ∧
      (∀ e, denyEntry s.deny.list media = some e →
        t.answers n ([0x01#8, if e.expiry = 0xFFFF ∨ s.clock.day ≤ e.expiry then 0x01#8 else 0x02#8,
          byteOf e.reason] ++ le16 e.expiry ++ le16 s.clock.day ++ le16 s.deny.list.length)) ∧
      s.sameBytesBut t (fun a => a = cellBase n ∨ inAnswer n a))

/-! ### Invariants that every step keeps -/

/-- Every step keeps exchange memory in its canonical form and the notice unit's four counts equal to the counts of the
cells; and the cells, the queues and the servers in agreement: each state byte is one of the four, an index stands in a
queue exactly when its cell is READY with a kind of that queue, and then once, and a cell is TAKEN exactly while the
verdict engine or the table unit holds it. -/
def Obligations.StepKeepsCellsQueuesAndCounts : Prop :=
  ∀ s t : State, s.memoryCanonical → step s = .next t →
    t.memoryCanonical ∧ (s.countsExact → t.countsExact) ∧
    (s.cellBytesLegal → s.queuesExact → s.takenHeld → t.cellBytesLegal ∧ t.queuesExact ∧ t.takenHeld)

/-- Every step keeps NOTE_N low exactly while a cause is pending, FIRST_FAULT set exactly while the capture is HELD, the
clock in its ranges, and the loss timer running exactly in RUNNING with no clock valid outside it. -/
def Obligations.StepKeepsLineCaptureAndClock : Prop :=
  ∀ s t : State, step s = .next t → (s.noteAgrees → t.noteAgrees) ∧ (s.captureAgrees → t.captureAgrees) ∧
    (s.clockInRange → t.clockInRange) ∧ (s.timebaseSound → t.timebaseSound)

/-- Every step keeps the round list to 256 entries of different media, the deny list to 4,096 entries in strictly
rising media ID, and a sweep in progress at an entry of the list. -/
def Obligations.StepKeepsLists : Prop :=
  ∀ s t : State, step s = .next t → (s.roundListSound → t.roundListSound) ∧ (s.denyListSound → t.denyListSound) ∧
    (s.sweepSound → s.deny.busy → t.sweepSound)

/-- Every step keeps the 64 bytes of the journey mirror equal to what the other blocks hold, each field at its address
of Table 12-12 and 0 in every byte that carries none. -/
def Obligations.StepKeepsMirror : Prop :=
  (∀ s t : State, s.memoryCanonical → s.mirrorShows → step s = .next t → t.mirrorShows) ∧
  ((∀ (s : State) (b w : Nat → Nat), s.mirrorShows → (∀ a, b a = (s.mem.read a).toNat) →
    (∀ a, w a = b a + 256 * b (a + 1)) →
    b 0x0800 = s.table.service.code ∧ b 0x0801 = s.journey.kind.code ∧
    (s.table.service.isOpen = true → w 0x0802 = w 0x1000 ∧ b 0x0804 = b 0x1002 ∧ b 0x0805 = b 0x1004) ∧
    (s.table.service.isOpen = false → w 0x0802 = 0 ∧ b 0x0804 = 0 ∧ b 0x0805 = 0) ∧
    b 0x0806 = (if s.journey.kind = .nowhere then 0 else s.journey.stop) % 256 ∧
    w 0x0808 = s.journey.round % 65536 ∧ w 0x080A = s.clock.day % 65536 ∧ w 0x080C = s.clock.minute % 65536 ∧
    b 0x080E = s.clock.second % 256 ∧ b 0x080F = s.clock.valid.toNat ∧ w 0x0810 = s.journey.serviceDay % 65536 ∧
    b 0x0812 = s.engine.counter % 256 ∧ w 0x0814 = s.rounds.length % 65536 ∧ w 0x0816 = s.deny.list.length % 65536 ∧
    (s.journey.capture = none → ∀ a, 0x0818 ≤ a → a < 0x0828 → b a = 0) ∧
    (∀ r, s.journey.capture = some r →
      b 0x0818 = 1 ∧ b 0x0819 = r.kind.code ∧ w 0x081A = r.round % 65536 ∧ b 0x081C = r.stop % 256 ∧
      b 0x081D = r.cell.val ∧ s.mem.read 0x081E = r.tag.1 ∧ s.mem.read 0x081F = r.tag.2 ∧
      w 0x0820 = r.day % 65536 ∧ w 0x0822 = r.minute % 65536 ∧ s.mem.read 0x0824 = r.verdict.code ∧
      w 0x0826 = r.amount % 65536) ∧
    b 0x0807 = 0 ∧ b 0x0813 = 0 ∧ b 0x0825 = 0 ∧ ∀ a, 0x0828 ≤ a → a < 0x0840 → b a = 0) ∧
  ([ServiceState.noService, .checking, .inService, .terminated].map ServiceState.code = [0, 1, 2, 3] ∧
    [PosKind.nowhere, .atStop, .inSection].map PosKind.code = [0, 1, 2] ∧
    [Verdict.valid, .validGrace, .repeat, .shortfall, .noCover, .expired, .notYetValid, .exhausted, .revoked, .passback,
      .unreadable, .notAccepted, .noService, .badRequest, .aborted].map Verdict.code =
      [0x01#8, 0x02#8, 0x03#8, 0x10#8, 0x11#8, 0x12#8, 0x13#8, 0x14#8, 0x20#8, 0x21#8, 0x30#8, 0x31#8, 0x40#8, 0x41#8,
        0x42#8]))

/-- Every step keeps the position, the round and the work of the table unit in the form of the service state: in
IN_SERVICE a stop of the route short of the terminus, in TERMINATED AT_STOP at the terminus, without a service none;
and without a service the round list empty and each inspection NO_SERVICE. -/
def Obligations.StepKeepsServiceForm : Prop :=
  ∀ s t : State, s.serviceSound → step s = .next t → t.serviceSound ∧ (s.inspectionsFit → t.inspectionsFit)

/-- Every step keeps every operation in hand with the unit that carries it on: a job, a lookup or an edit is with its
unit exactly while its requester waits for it, and a unit serves only work that is there. -/
def Obligations.StepKeepsWorkLinked : Prop :=
  ∀ s t : State, s.workLinked → step s = .next t → t.workLinked

/-- Every step keeps a table-unit job at the remainder of the bytes it has taken, whatever jobs are served between
its pieces and whatever the host writes: the guards hold the bytes it reads. -/
def Obligations.StepKeepsTableJob : Prop :=
  ∀ s t : State, s.serviceSound → s.workLinked → s.tableJobSound → step s = .next t → t.tableJobSound

/-- Every step keeps every write-back image whole: 32 bytes with a mark sequence from 1 to 255 and, once sealed, a
residue of 0000h; and forms no value of an answer but T and the detail before the verdict. -/
def Obligations.StepKeepsImagesSound : Prop :=
  ∀ s t : State, s.imagesSound → step s = .next t → t.imagesSound

/-! ### Rules of the whole machine -/

/-- While the service state is not NO_SERVICE no command but POWER_ON changes a byte of the context region; no command
but a host write and POWER_ON changes a byte of the scratch area, the context region or the bulk area in any state; no
host access changes a byte of a TAKEN cell; and a batch extent under guard is changed by no command but POWER_ON. -/
def Obligations.GuardedMemoryHolds : Prop :=
  (∀ (c : Instr) (s t : State), exec c s = .next t → c ≠ .powerOn →
    (s.table.service ≠ .noService → ∀ a, 0x1000 ≤ a → a < 0x3000 → t.mem.read a = s.mem.read a) ∧
    ((∀ addr data lanes, c ≠ .hostWrite addr data lanes) → ∀ a, 0x0840 ≤ a → t.mem.read a = s.mem.read a)) ∧
  ((∀ (s t : State) (n : Fin 32) (c : Instr), s.cellState n = .taken → exec c s = .next t →
    ((∃ addr data lanes, c = .hostWrite addr data lanes) ∨ (∃ m kind, c = .arrival m kind) ∨
      (∃ m, c = .withdrawal m) ∨ ∃ m, c = .release m) → c.resets = false →
    ∀ i, i < 64 → t.cellByte n i = s.cellByte n i) ∧
  ∀ (s t : State) (c : Instr) (n : Fin 32) (offset count applied : Nat) (applying : Bool),
    s.table.held = some (n, .denyBatch offset count applied applying) → Config.bulkBase ≤ offset →
    exec c s = .next t → c ≠ .powerOn →
    ∀ a, offset ≤ a → a < offset + 4 + 12 * count → t.mem.read a = s.mem.read a)

/-- The service state changes at the events of Table 8-3 and at no other. -/
def Obligations.ServiceStateChangesByTable : Prop :=
  ∀ (c : Instr) (s t : State), s.serviceSound → exec c s = .next t → t.table.service ≠ s.table.service →
    (c = .serviceOpen ∧ s.table.service = .noService ∧ s.clock.valid = true ∧ t.table.service = .checking) ∨
    (c = .serviceOpenCompletion ∧ s.table.service = .checking ∧ t.table.service = .inService) ∨
    (c = .checkJobEnd ∧ s.table.service = .checking ∧ t.table.service = .noService) ∨
    ((c = .arrive ∨ c = .set) ∧ s.table.service = .inService ∧ t.table.service = .terminated ∧
      t.journey.kind = .atStop ∧ t.journey.stop = s.mem.header.terminus) ∨
    ((c = .serviceClose ∨ c = .serviceCloseCompletion) ∧ s.table.service.isOpen = true ∧
      s.engine.flight = none ∧ t.table.service = .noService) ∨
    (c.resets = true ∧ t.table.service = .noService)

/-- An event flag once set is cleared only by a write of 1 to its bit of EVENT_FLAGS or a reset, and FIRST_FAULT also
where the engine re-arms the capture: at a boundary, at an open's completion and at a close. -/
def Obligations.FlagsAreSticky : Prop :=
  ∀ (c : Instr) (s t : State) (f : EventFlag), exec c s = .next t → s.flag f = true → t.flag f = false →
    c.resets = true ∨ c.clearsFlag f.number = true ∨
    f = .firstFault ∧ (c = .arrive ∨ c = .pass ∨ c = .serviceOpenCompletion ∨ c = .serviceClose ∨
      c = .serviceCloseCompletion)

/-- Each block's lasting state changes by its own commands alone: the clock by the clock inputs, CLOCK_SET and POWER_ON;
the deny list by its edits, the sweep and POWER_ON; the counter by a completed inspection, a completed open and the
resets; the enable mask by its write and POWER_ON; the round list by an inspection's lookup and completion, at a
boundary, an open or a close; the capture by a completed inspection, a clear of FIRST_FAULT, a boundary, an open or a
close; the position by the events of the journey, an open or a close; an intake queue by a write to a state byte and by
the takes of its own kinds; and each of these by the resets. The round rises only at an ARRIVE or a PASS, goes to 1 only
at an open's completion and to 0 only at a close or a reset, and its every change empties the round list. -/
def Obligations.OwnersAloneChangeTheirState : Prop :=
  (∀ (c : Instr) (s t : State), exec c s = .next t →
    (t.clock ≠ s.clock →
      c ∈ [.clk32Edge, .secondAdvance, .lossTimerExpiry, .clockSet, .powerOn]) ∧
    (t.deny.list ≠ s.deny.list → c ∈ [.add, .delete, .clear, .sweepStep, .powerOn]) ∧
    (t.engine.counter ≠ s.engine.counter →
      c = .inspectCompletion ∨ c = .serviceOpenCompletion ∨ c.resets = true) ∧
    (t.notice.enable ≠ s.notice.enable →
      c = .powerOn ∨ (∃ data lanes, c = .eventEnableWrite data lanes) ∨
        ∃ addr data lanes, c = .hostWrite addr data lanes ∧ evenAddress addr = Config.eventEnableAddr)) ∧
  ((∀ (c : Instr) (s t : State), exec c s = .next t → t.journey.round ≠ s.journey.round → t.rounds = [] ∧
    ((c = .arrive ∨ c = .pass) ∧ s.journey.round < t.journey.round ∧ t.journey.round ≤ 65535 ∧
        t.flag .boundary = true ∨
      c = .serviceOpenCompletion ∧ t.journey.round = 1 ∨
      (c = .serviceClose ∨ c = .serviceCloseCompletion ∨ c.resets = true) ∧ t.journey.round = 0)) ∧
  ∀ (c : Instr) (s t : State), exec c s = .next t → c.resets = false →
    (t.rounds ≠ s.rounds → c ∈ [.denyLookup .verdictEngine, .inspectCompletion, .arrive, .pass, .serviceOpenCompletion,
      .serviceClose, .serviceCloseCompletion]) ∧
    (t.journey.capture ≠ s.journey.capture → c.clearsFlag 8 = true ∨ c ∈ [.inspectCompletion, .arrive, .pass,
      .serviceOpenCompletion, .serviceClose, .serviceCloseCompletion]) ∧
    ((t.journey.kind, t.journey.stop) ≠ (s.journey.kind, s.journey.stop) → c ∈ [.depart, .arrive, .pass, .set,
      .serviceOpenCompletion, .serviceClose, .serviceCloseCompletion]) ∧
    (t.journey.serviceDay ≠ s.journey.serviceDay → c ∈ [.serviceOpenCompletion, .serviceClose,
      .serviceCloseCompletion]) ∧
    (c.writesStateByte = false →
      (t.intake.inspection ≠ s.intake.inspection → c = .inspect) ∧
      (t.intake.journey ≠ s.intake.journey → c ∈ [.depart, .arrive, .pass, .set, .journeyBadEvent, .clockSet]) ∧
      (t.intake.table ≠ s.intake.table → c ∈ [.serviceOpen, .serviceClose, .denyBatch, .denyProbe])))
end

