-- ==== Sys2Proof/Laws/State.lean ====
section
/-! SUPPORT. What each update of the state leaves as it was, field by field, and what the one field it writes holds,
so that no proof unfolds a record update. -/

namespace Sys2Proof.Machine

/-! ### store -/

@[simp] theorem State.store_intake (s : State) (a : Nat) (bs : List Byte) : (s.store a bs).intake = s.intake := rfl
@[simp] theorem State.store_engine (s : State) (a : Nat) (bs : List Byte) : (s.store a bs).engine = s.engine := rfl
@[simp] theorem State.store_clock (s : State) (a : Nat) (bs : List Byte) : (s.store a bs).clock = s.clock := rfl
@[simp] theorem State.store_journey (s : State) (a : Nat) (bs : List Byte) : (s.store a bs).journey = s.journey := rfl
@[simp] theorem State.store_table (s : State) (a : Nat) (bs : List Byte) : (s.store a bs).table = s.table := rfl
@[simp] theorem State.store_rounds (s : State) (a : Nat) (bs : List Byte) : (s.store a bs).rounds = s.rounds := rfl
@[simp] theorem State.store_deny (s : State) (a : Nat) (bs : List Byte) : (s.store a bs).deny = s.deny := rfl
@[simp] theorem State.store_check (s : State) (a : Nat) (bs : List Byte) : (s.store a bs).check = s.check := rfl
@[simp] theorem State.store_notice (s : State) (a : Nat) (bs : List Byte) : (s.store a bs).notice = s.notice := rfl
@[simp] theorem State.store_readData (s : State) (a : Nat) (bs : List Byte) : (s.store a bs).readData = s.readData := rfl
@[simp] theorem State.store_pending (s : State) (a : Nat) (bs : List Byte) : (s.store a bs).pending = s.pending := rfl

/-! ### setCellState -/

@[simp] theorem State.setCellState_intake (s : State) (n : Fin 32) (c : CellState) : (s.setCellState n c).intake = s.intake := rfl
@[simp] theorem State.setCellState_engine (s : State) (n : Fin 32) (c : CellState) : (s.setCellState n c).engine = s.engine := rfl
@[simp] theorem State.setCellState_clock (s : State) (n : Fin 32) (c : CellState) : (s.setCellState n c).clock = s.clock := rfl
@[simp] theorem State.setCellState_journey (s : State) (n : Fin 32) (c : CellState) : (s.setCellState n c).journey = s.journey := rfl
@[simp] theorem State.setCellState_table (s : State) (n : Fin 32) (c : CellState) : (s.setCellState n c).table = s.table := rfl
@[simp] theorem State.setCellState_rounds (s : State) (n : Fin 32) (c : CellState) : (s.setCellState n c).rounds = s.rounds := rfl
@[simp] theorem State.setCellState_deny (s : State) (n : Fin 32) (c : CellState) : (s.setCellState n c).deny = s.deny := rfl
@[simp] theorem State.setCellState_check (s : State) (n : Fin 32) (c : CellState) : (s.setCellState n c).check = s.check := rfl
@[simp] theorem State.setCellState_readData (s : State) (n : Fin 32) (c : CellState) : (s.setCellState n c).readData = s.readData := rfl
@[simp] theorem State.setCellState_pending (s : State) (n : Fin 32) (c : CellState) : (s.setCellState n c).pending = s.pending := rfl

/-! ### take -/

@[simp] theorem State.take_engine (s : State) (q : QueueId) (n : Fin 32) : (s.take q n).engine = s.engine := rfl
@[simp] theorem State.take_clock (s : State) (q : QueueId) (n : Fin 32) : (s.take q n).clock = s.clock := rfl
@[simp] theorem State.take_journey (s : State) (q : QueueId) (n : Fin 32) : (s.take q n).journey = s.journey := rfl
@[simp] theorem State.take_table (s : State) (q : QueueId) (n : Fin 32) : (s.take q n).table = s.table := rfl
@[simp] theorem State.take_rounds (s : State) (q : QueueId) (n : Fin 32) : (s.take q n).rounds = s.rounds := rfl
@[simp] theorem State.take_deny (s : State) (q : QueueId) (n : Fin 32) : (s.take q n).deny = s.deny := rfl
@[simp] theorem State.take_check (s : State) (q : QueueId) (n : Fin 32) : (s.take q n).check = s.check := rfl
@[simp] theorem State.take_readData (s : State) (q : QueueId) (n : Fin 32) : (s.take q n).readData = s.readData := rfl
@[simp] theorem State.take_pending (s : State) (q : QueueId) (n : Fin 32) : (s.take q n).pending = s.pending := rfl

/-! ### post -/

@[simp] theorem State.post_intake (s : State) (n : Fin 32) (answer : List Byte) (body : Option (List Byte)) : (s.post n answer body).intake = s.intake := by cases body <;> rfl
@[simp] theorem State.post_engine (s : State) (n : Fin 32) (answer : List Byte) (body : Option (List Byte)) : (s.post n answer body).engine = s.engine := by cases body <;> rfl
@[simp] theorem State.post_clock (s : State) (n : Fin 32) (answer : List Byte) (body : Option (List Byte)) : (s.post n answer body).clock = s.clock := by cases body <;> rfl
@[simp] theorem State.post_journey (s : State) (n : Fin 32) (answer : List Byte) (body : Option (List Byte)) : (s.post n answer body).journey = s.journey := by cases body <;> rfl
@[simp] theorem State.post_table (s : State) (n : Fin 32) (answer : List Byte) (body : Option (List Byte)) : (s.post n answer body).table = s.table := by cases body <;> rfl
@[simp] theorem State.post_rounds (s : State) (n : Fin 32) (answer : List Byte) (body : Option (List Byte)) : (s.post n answer body).rounds = s.rounds := by cases body <;> rfl
@[simp] theorem State.post_deny (s : State) (n : Fin 32) (answer : List Byte) (body : Option (List Byte)) : (s.post n answer body).deny = s.deny := by cases body <;> rfl
@[simp] theorem State.post_check (s : State) (n : Fin 32) (answer : List Byte) (body : Option (List Byte)) : (s.post n answer body).check = s.check := by cases body <;> rfl
@[simp] theorem State.post_readData (s : State) (n : Fin 32) (answer : List Byte) (body : Option (List Byte)) : (s.post n answer body).readData = s.readData := by cases body <;> rfl
@[simp] theorem State.post_pending (s : State) (n : Fin 32) (answer : List Byte) (body : Option (List Byte)) : (s.post n answer body).pending = s.pending := by cases body <;> rfl

/-! ### raise -/

@[simp] theorem State.raise_mem (s : State) (f : EventFlag) : (s.raise f).mem = s.mem := rfl
@[simp] theorem State.raise_intake (s : State) (f : EventFlag) : (s.raise f).intake = s.intake := rfl
@[simp] theorem State.raise_engine (s : State) (f : EventFlag) : (s.raise f).engine = s.engine := rfl
@[simp] theorem State.raise_clock (s : State) (f : EventFlag) : (s.raise f).clock = s.clock := rfl
@[simp] theorem State.raise_journey (s : State) (f : EventFlag) : (s.raise f).journey = s.journey := rfl
@[simp] theorem State.raise_table (s : State) (f : EventFlag) : (s.raise f).table = s.table := rfl
@[simp] theorem State.raise_rounds (s : State) (f : EventFlag) : (s.raise f).rounds = s.rounds := rfl
@[simp] theorem State.raise_deny (s : State) (f : EventFlag) : (s.raise f).deny = s.deny := rfl
@[simp] theorem State.raise_check (s : State) (f : EventFlag) : (s.raise f).check = s.check := rfl
@[simp] theorem State.raise_readData (s : State) (f : EventFlag) : (s.raise f).readData = s.readData := rfl
@[simp] theorem State.raise_pending (s : State) (f : EventFlag) : (s.raise f).pending = s.pending := rfl

/-! ### clearFlag -/

@[simp] theorem State.clearFlag_mem (s : State) (f : EventFlag) : (s.clearFlag f).mem = s.mem := rfl
@[simp] theorem State.clearFlag_intake (s : State) (f : EventFlag) : (s.clearFlag f).intake = s.intake := rfl
@[simp] theorem State.clearFlag_engine (s : State) (f : EventFlag) : (s.clearFlag f).engine = s.engine := rfl
@[simp] theorem State.clearFlag_clock (s : State) (f : EventFlag) : (s.clearFlag f).clock = s.clock := rfl
@[simp] theorem State.clearFlag_journey (s : State) (f : EventFlag) : (s.clearFlag f).journey = s.journey := rfl
@[simp] theorem State.clearFlag_table (s : State) (f : EventFlag) : (s.clearFlag f).table = s.table := rfl
@[simp] theorem State.clearFlag_rounds (s : State) (f : EventFlag) : (s.clearFlag f).rounds = s.rounds := rfl
@[simp] theorem State.clearFlag_deny (s : State) (f : EventFlag) : (s.clearFlag f).deny = s.deny := rfl
@[simp] theorem State.clearFlag_check (s : State) (f : EventFlag) : (s.clearFlag f).check = s.check := rfl
@[simp] theorem State.clearFlag_readData (s : State) (f : EventFlag) : (s.clearFlag f).readData = s.readData := rfl
@[simp] theorem State.clearFlag_pending (s : State) (f : EventFlag) : (s.clearFlag f).pending = s.pending := rfl

/-! ### driveNote -/

@[simp] theorem State.driveNote_mem (s : State) : (s.driveNote).mem = s.mem := rfl
@[simp] theorem State.driveNote_intake (s : State) : (s.driveNote).intake = s.intake := rfl
@[simp] theorem State.driveNote_engine (s : State) : (s.driveNote).engine = s.engine := rfl
@[simp] theorem State.driveNote_clock (s : State) : (s.driveNote).clock = s.clock := rfl
@[simp] theorem State.driveNote_journey (s : State) : (s.driveNote).journey = s.journey := rfl
@[simp] theorem State.driveNote_table (s : State) : (s.driveNote).table = s.table := rfl
@[simp] theorem State.driveNote_rounds (s : State) : (s.driveNote).rounds = s.rounds := rfl
@[simp] theorem State.driveNote_deny (s : State) : (s.driveNote).deny = s.deny := rfl
@[simp] theorem State.driveNote_check (s : State) : (s.driveNote).check = s.check := rfl
@[simp] theorem State.driveNote_readData (s : State) : (s.driveNote).readData = s.readData := rfl
@[simp] theorem State.driveNote_pending (s : State) : (s.driveNote).pending = s.pending := rfl

/-! ### rewriteMirror -/

@[simp] theorem State.rewriteMirror_intake (s : State) : (s.rewriteMirror).intake = s.intake := State.store_intake ..
@[simp] theorem State.rewriteMirror_engine (s : State) : (s.rewriteMirror).engine = s.engine := State.store_engine ..
@[simp] theorem State.rewriteMirror_clock (s : State) : (s.rewriteMirror).clock = s.clock := State.store_clock ..
@[simp] theorem State.rewriteMirror_journey (s : State) : (s.rewriteMirror).journey = s.journey := State.store_journey ..
@[simp] theorem State.rewriteMirror_table (s : State) : (s.rewriteMirror).table = s.table := State.store_table ..
@[simp] theorem State.rewriteMirror_rounds (s : State) : (s.rewriteMirror).rounds = s.rounds := State.store_rounds ..
@[simp] theorem State.rewriteMirror_deny (s : State) : (s.rewriteMirror).deny = s.deny := State.store_deny ..
@[simp] theorem State.rewriteMirror_check (s : State) : (s.rewriteMirror).check = s.check := State.store_check ..
@[simp] theorem State.rewriteMirror_notice (s : State) : (s.rewriteMirror).notice = s.notice := State.store_notice ..
@[simp] theorem State.rewriteMirror_readData (s : State) : (s.rewriteMirror).readData = s.readData := State.store_readData ..
@[simp] theorem State.rewriteMirror_pending (s : State) : (s.rewriteMirror).pending = s.pending := State.store_pending ..

/-! ### setFlight -/

@[simp] theorem State.setFlight_mem (s : State) (f : Flight) : (s.setFlight f).mem = s.mem := rfl
@[simp] theorem State.setFlight_intake (s : State) (f : Flight) : (s.setFlight f).intake = s.intake := rfl
@[simp] theorem State.setFlight_clock (s : State) (f : Flight) : (s.setFlight f).clock = s.clock := rfl
@[simp] theorem State.setFlight_journey (s : State) (f : Flight) : (s.setFlight f).journey = s.journey := rfl
@[simp] theorem State.setFlight_table (s : State) (f : Flight) : (s.setFlight f).table = s.table := rfl
@[simp] theorem State.setFlight_rounds (s : State) (f : Flight) : (s.setFlight f).rounds = s.rounds := rfl
@[simp] theorem State.setFlight_deny (s : State) (f : Flight) : (s.setFlight f).deny = s.deny := rfl
@[simp] theorem State.setFlight_check (s : State) (f : Flight) : (s.setFlight f).check = s.check := rfl
@[simp] theorem State.setFlight_notice (s : State) (f : Flight) : (s.setFlight f).notice = s.notice := rfl
@[simp] theorem State.setFlight_readData (s : State) (f : Flight) : (s.setFlight f).readData = s.readData := rfl
@[simp] theorem State.setFlight_pending (s : State) (f : Flight) : (s.setFlight f).pending = s.pending := rfl

/-! ### askEngineJob -/

@[simp] theorem State.askEngineJob_mem (s : State) (run : List Byte) : (s.askEngineJob run).mem = s.mem := rfl
@[simp] theorem State.askEngineJob_intake (s : State) (run : List Byte) : (s.askEngineJob run).intake = s.intake := rfl
@[simp] theorem State.askEngineJob_engine (s : State) (run : List Byte) : (s.askEngineJob run).engine = s.engine := rfl
@[simp] theorem State.askEngineJob_clock (s : State) (run : List Byte) : (s.askEngineJob run).clock = s.clock := rfl
@[simp] theorem State.askEngineJob_journey (s : State) (run : List Byte) : (s.askEngineJob run).journey = s.journey := rfl
@[simp] theorem State.askEngineJob_table (s : State) (run : List Byte) : (s.askEngineJob run).table = s.table := rfl
@[simp] theorem State.askEngineJob_rounds (s : State) (run : List Byte) : (s.askEngineJob run).rounds = s.rounds := rfl
@[simp] theorem State.askEngineJob_deny (s : State) (run : List Byte) : (s.askEngineJob run).deny = s.deny := rfl
@[simp] theorem State.askEngineJob_notice (s : State) (run : List Byte) : (s.askEngineJob run).notice = s.notice := rfl
@[simp] theorem State.askEngineJob_readData (s : State) (run : List Byte) : (s.askEngineJob run).readData = s.readData := rfl
@[simp] theorem State.askEngineJob_pending (s : State) (run : List Byte) : (s.askEngineJob run).pending = s.pending := rfl

/-! ### askTableJob -/

@[simp] theorem State.askTableJob_mem (s : State) (base length : Nat) : (s.askTableJob base length).mem = s.mem := rfl
@[simp] theorem State.askTableJob_intake (s : State) (base length : Nat) : (s.askTableJob base length).intake = s.intake := rfl
@[simp] theorem State.askTableJob_engine (s : State) (base length : Nat) : (s.askTableJob base length).engine = s.engine := rfl
@[simp] theorem State.askTableJob_clock (s : State) (base length : Nat) : (s.askTableJob base length).clock = s.clock := rfl
@[simp] theorem State.askTableJob_journey (s : State) (base length : Nat) : (s.askTableJob base length).journey = s.journey := rfl
@[simp] theorem State.askTableJob_table (s : State) (base length : Nat) : (s.askTableJob base length).table = s.table := rfl
@[simp] theorem State.askTableJob_rounds (s : State) (base length : Nat) : (s.askTableJob base length).rounds = s.rounds := rfl
@[simp] theorem State.askTableJob_deny (s : State) (base length : Nat) : (s.askTableJob base length).deny = s.deny := rfl
@[simp] theorem State.askTableJob_notice (s : State) (base length : Nat) : (s.askTableJob base length).notice = s.notice := rfl
@[simp] theorem State.askTableJob_readData (s : State) (base length : Nat) : (s.askTableJob base length).readData = s.readData := rfl
@[simp] theorem State.askTableJob_pending (s : State) (base length : Nat) : (s.askTableJob base length).pending = s.pending := rfl

/-! ### chooseDeny -/

@[simp] theorem State.chooseDeny_mem (s : State) : (s.chooseDeny).mem = s.mem := rfl
@[simp] theorem State.chooseDeny_intake (s : State) : (s.chooseDeny).intake = s.intake := rfl
@[simp] theorem State.chooseDeny_engine (s : State) : (s.chooseDeny).engine = s.engine := rfl
@[simp] theorem State.chooseDeny_clock (s : State) : (s.chooseDeny).clock = s.clock := rfl
@[simp] theorem State.chooseDeny_journey (s : State) : (s.chooseDeny).journey = s.journey := rfl
@[simp] theorem State.chooseDeny_table (s : State) : (s.chooseDeny).table = s.table := rfl
@[simp] theorem State.chooseDeny_rounds (s : State) : (s.chooseDeny).rounds = s.rounds := rfl
@[simp] theorem State.chooseDeny_check (s : State) : (s.chooseDeny).check = s.check := rfl
@[simp] theorem State.chooseDeny_notice (s : State) : (s.chooseDeny).notice = s.notice := rfl
@[simp] theorem State.chooseDeny_readData (s : State) : (s.chooseDeny).readData = s.readData := rfl
@[simp] theorem State.chooseDeny_pending (s : State) : (s.chooseDeny).pending = s.pending := rfl
@[simp] theorem State.chooseDeny_deny (s : State) : s.chooseDeny.deny = s.deny.choose := rfl

/-! ### advanceDeny -/

@[simp] theorem State.advanceDeny_mem (s : State) : (s.advanceDeny).mem = s.mem := rfl
@[simp] theorem State.advanceDeny_intake (s : State) : (s.advanceDeny).intake = s.intake := rfl
@[simp] theorem State.advanceDeny_engine (s : State) : (s.advanceDeny).engine = s.engine := rfl
@[simp] theorem State.advanceDeny_clock (s : State) : (s.advanceDeny).clock = s.clock := rfl
@[simp] theorem State.advanceDeny_journey (s : State) : (s.advanceDeny).journey = s.journey := rfl
@[simp] theorem State.advanceDeny_table (s : State) : (s.advanceDeny).table = s.table := rfl
@[simp] theorem State.advanceDeny_rounds (s : State) : (s.advanceDeny).rounds = s.rounds := rfl
@[simp] theorem State.advanceDeny_check (s : State) : (s.advanceDeny).check = s.check := rfl
@[simp] theorem State.advanceDeny_notice (s : State) : (s.advanceDeny).notice = s.notice := rfl
@[simp] theorem State.advanceDeny_readData (s : State) : (s.advanceDeny).readData = s.readData := rfl
@[simp] theorem State.advanceDeny_pending (s : State) : (s.advanceDeny).pending = s.pending := rfl
@[simp] theorem State.advanceDeny_deny (s : State) : s.advanceDeny.deny = s.deny.advance := rfl

/-! ### beginLookup -/

@[simp] theorem State.beginLookup_mem (s : State) : (s.beginLookup).mem = s.mem := rfl
@[simp] theorem State.beginLookup_intake (s : State) : (s.beginLookup).intake = s.intake := rfl
@[simp] theorem State.beginLookup_engine (s : State) : (s.beginLookup).engine = s.engine := rfl
@[simp] theorem State.beginLookup_clock (s : State) : (s.beginLookup).clock = s.clock := rfl
@[simp] theorem State.beginLookup_journey (s : State) : (s.beginLookup).journey = s.journey := rfl
@[simp] theorem State.beginLookup_table (s : State) : (s.beginLookup).table = s.table := rfl
@[simp] theorem State.beginLookup_rounds (s : State) : (s.beginLookup).rounds = s.rounds := rfl
@[simp] theorem State.beginLookup_check (s : State) : (s.beginLookup).check = s.check := rfl
@[simp] theorem State.beginLookup_notice (s : State) : (s.beginLookup).notice = s.notice := rfl
@[simp] theorem State.beginLookup_readData (s : State) : (s.beginLookup).readData = s.readData := rfl
@[simp] theorem State.beginLookup_pending (s : State) : (s.beginLookup).pending = s.pending := rfl
@[simp] theorem State.beginLookup_deny (s : State) : s.beginLookup.deny = s.deny.beginLookup := rfl

/-! ### settled -/

@[simp] theorem State.settled_mem (s : State) : s.settled.mem = s.mem := rfl
@[simp] theorem State.settled_intake (s : State) : s.settled.intake = s.intake := rfl
@[simp] theorem State.settled_engine (s : State) : s.settled.engine = s.engine := rfl
@[simp] theorem State.settled_clock (s : State) : s.settled.clock = s.clock := rfl
@[simp] theorem State.settled_journey (s : State) : s.settled.journey = s.journey := rfl
@[simp] theorem State.settled_table (s : State) : s.settled.table = s.table := rfl
@[simp] theorem State.settled_rounds (s : State) : s.settled.rounds = s.rounds := rfl
@[simp] theorem State.settled_notice (s : State) : s.settled.notice = s.notice := rfl
@[simp] theorem State.settled_readData (s : State) : s.settled.readData = s.readData := rfl
@[simp] theorem State.settled_pending (s : State) : s.settled.pending = s.pending := rfl
@[simp] theorem State.settled_check (s : State) : s.settled.check = s.check.choose := rfl
@[simp] theorem State.settled_deny (s : State) : s.settled.deny = s.deny.advance := rfl

/-! ### idle -/

@[simp] theorem State.idle_mem (s : State) : s.idle.mem = s.mem := rfl
@[simp] theorem State.idle_intake (s : State) : s.idle.intake = s.intake := rfl
@[simp] theorem State.idle_engine (s : State) : s.idle.engine = s.engine := rfl
@[simp] theorem State.idle_clock (s : State) : s.idle.clock = s.clock := rfl
@[simp] theorem State.idle_journey (s : State) : s.idle.journey = s.journey := rfl
@[simp] theorem State.idle_table (s : State) : s.idle.table = s.table := rfl
@[simp] theorem State.idle_rounds (s : State) : s.idle.rounds = s.rounds := rfl
@[simp] theorem State.idle_notice (s : State) : s.idle.notice = s.notice := rfl
@[simp] theorem State.idle_readData (s : State) : s.idle.readData = s.readData := rfl
@[simp] theorem State.idle_pending (s : State) : s.idle.pending = s.pending := rfl
@[simp] theorem State.idle_check (s : State) : s.idle.check = s.check.choose := rfl
@[simp] theorem State.idle_deny (s : State) : s.idle.deny = s.deny.choose := rfl

/-! ### chooseCheck -/

@[simp] theorem State.chooseCheck_mem (s : State) : (s.chooseCheck).mem = s.mem := rfl
@[simp] theorem State.chooseCheck_intake (s : State) : (s.chooseCheck).intake = s.intake := rfl
@[simp] theorem State.chooseCheck_engine (s : State) : (s.chooseCheck).engine = s.engine := rfl
@[simp] theorem State.chooseCheck_clock (s : State) : (s.chooseCheck).clock = s.clock := rfl
@[simp] theorem State.chooseCheck_journey (s : State) : (s.chooseCheck).journey = s.journey := rfl
@[simp] theorem State.chooseCheck_table (s : State) : (s.chooseCheck).table = s.table := rfl
@[simp] theorem State.chooseCheck_rounds (s : State) : (s.chooseCheck).rounds = s.rounds := rfl
@[simp] theorem State.chooseCheck_deny (s : State) : (s.chooseCheck).deny = s.deny := rfl
@[simp] theorem State.chooseCheck_notice (s : State) : (s.chooseCheck).notice = s.notice := rfl
@[simp] theorem State.chooseCheck_readData (s : State) : (s.chooseCheck).readData = s.readData := rfl
@[simp] theorem State.chooseCheck_pending (s : State) : (s.chooseCheck).pending = s.pending := rfl

/-! ### askEngineLookup -/

@[simp] theorem State.askEngineLookup_mem (s : State) (media day : Nat) : (s.askEngineLookup media day).mem = s.mem := rfl
@[simp] theorem State.askEngineLookup_intake (s : State) (media day : Nat) : (s.askEngineLookup media day).intake = s.intake := rfl
@[simp] theorem State.askEngineLookup_engine (s : State) (media day : Nat) : (s.askEngineLookup media day).engine = s.engine := rfl
@[simp] theorem State.askEngineLookup_clock (s : State) (media day : Nat) : (s.askEngineLookup media day).clock = s.clock := rfl
@[simp] theorem State.askEngineLookup_journey (s : State) (media day : Nat) : (s.askEngineLookup media day).journey = s.journey := rfl
@[simp] theorem State.askEngineLookup_table (s : State) (media day : Nat) : (s.askEngineLookup media day).table = s.table := rfl
@[simp] theorem State.askEngineLookup_rounds (s : State) (media day : Nat) : (s.askEngineLookup media day).rounds = s.rounds := rfl
@[simp] theorem State.askEngineLookup_check (s : State) (media day : Nat) : (s.askEngineLookup media day).check = s.check := rfl
@[simp] theorem State.askEngineLookup_notice (s : State) (media day : Nat) : (s.askEngineLookup media day).notice = s.notice := rfl
@[simp] theorem State.askEngineLookup_readData (s : State) (media day : Nat) : (s.askEngineLookup media day).readData = s.readData := rfl
@[simp] theorem State.askEngineLookup_pending (s : State) (media day : Nat) : (s.askEngineLookup media day).pending = s.pending := rfl

/-! ### askProbeLookup -/

@[simp] theorem State.askProbeLookup_mem (s : State) (media : Nat) : (s.askProbeLookup media).mem = s.mem := rfl
@[simp] theorem State.askProbeLookup_intake (s : State) (media : Nat) : (s.askProbeLookup media).intake = s.intake := rfl
@[simp] theorem State.askProbeLookup_engine (s : State) (media : Nat) : (s.askProbeLookup media).engine = s.engine := rfl
@[simp] theorem State.askProbeLookup_clock (s : State) (media : Nat) : (s.askProbeLookup media).clock = s.clock := rfl
@[simp] theorem State.askProbeLookup_journey (s : State) (media : Nat) : (s.askProbeLookup media).journey = s.journey := rfl
@[simp] theorem State.askProbeLookup_table (s : State) (media : Nat) : (s.askProbeLookup media).table = s.table := rfl
@[simp] theorem State.askProbeLookup_rounds (s : State) (media : Nat) : (s.askProbeLookup media).rounds = s.rounds := rfl
@[simp] theorem State.askProbeLookup_check (s : State) (media : Nat) : (s.askProbeLookup media).check = s.check := rfl
@[simp] theorem State.askProbeLookup_notice (s : State) (media : Nat) : (s.askProbeLookup media).notice = s.notice := rfl
@[simp] theorem State.askProbeLookup_readData (s : State) (media : Nat) : (s.askProbeLookup media).readData = s.readData := rfl
@[simp] theorem State.askProbeLookup_pending (s : State) (media : Nat) : (s.askProbeLookup media).pending = s.pending := rfl

/-! ### handEdit -/

@[simp] theorem State.handEdit_mem (s : State) (e : Edit) : (s.handEdit e).mem = s.mem := rfl
@[simp] theorem State.handEdit_intake (s : State) (e : Edit) : (s.handEdit e).intake = s.intake := rfl
@[simp] theorem State.handEdit_engine (s : State) (e : Edit) : (s.handEdit e).engine = s.engine := rfl
@[simp] theorem State.handEdit_clock (s : State) (e : Edit) : (s.handEdit e).clock = s.clock := rfl
@[simp] theorem State.handEdit_journey (s : State) (e : Edit) : (s.handEdit e).journey = s.journey := rfl
@[simp] theorem State.handEdit_table (s : State) (e : Edit) : (s.handEdit e).table = s.table := rfl
@[simp] theorem State.handEdit_rounds (s : State) (e : Edit) : (s.handEdit e).rounds = s.rounds := rfl
@[simp] theorem State.handEdit_check (s : State) (e : Edit) : (s.handEdit e).check = s.check := rfl
@[simp] theorem State.handEdit_notice (s : State) (e : Edit) : (s.handEdit e).notice = s.notice := rfl
@[simp] theorem State.handEdit_readData (s : State) (e : Edit) : (s.handEdit e).readData = s.readData := rfl
@[simp] theorem State.handEdit_pending (s : State) (e : Edit) : (s.handEdit e).pending = s.pending := rfl

/-! ### completeDeny -/

@[simp] theorem State.completeDeny_mem (s : State) : (s.completeDeny).mem = s.mem := rfl
@[simp] theorem State.completeDeny_intake (s : State) : (s.completeDeny).intake = s.intake := rfl
@[simp] theorem State.completeDeny_engine (s : State) : (s.completeDeny).engine = s.engine := rfl
@[simp] theorem State.completeDeny_clock (s : State) : (s.completeDeny).clock = s.clock := rfl
@[simp] theorem State.completeDeny_journey (s : State) : (s.completeDeny).journey = s.journey := rfl
@[simp] theorem State.completeDeny_table (s : State) : (s.completeDeny).table = s.table := rfl
@[simp] theorem State.completeDeny_rounds (s : State) : (s.completeDeny).rounds = s.rounds := rfl
@[simp] theorem State.completeDeny_check (s : State) : (s.completeDeny).check = s.check := rfl
@[simp] theorem State.completeDeny_notice (s : State) : (s.completeDeny).notice = s.notice := rfl
@[simp] theorem State.completeDeny_readData (s : State) : (s.completeDeny).readData = s.readData := rfl
@[simp] theorem State.completeDeny_pending (s : State) : (s.completeDeny).pending = s.pending := rfl

/-! ### hold -/

@[simp] theorem State.hold_mem (s : State) (n : Fin 32) (task : TableTask) : (s.hold n task).mem = s.mem := rfl
@[simp] theorem State.hold_intake (s : State) (n : Fin 32) (task : TableTask) : (s.hold n task).intake = s.intake := rfl
@[simp] theorem State.hold_engine (s : State) (n : Fin 32) (task : TableTask) : (s.hold n task).engine = s.engine := rfl
@[simp] theorem State.hold_clock (s : State) (n : Fin 32) (task : TableTask) : (s.hold n task).clock = s.clock := rfl
@[simp] theorem State.hold_journey (s : State) (n : Fin 32) (task : TableTask) : (s.hold n task).journey = s.journey := rfl
@[simp] theorem State.hold_rounds (s : State) (n : Fin 32) (task : TableTask) : (s.hold n task).rounds = s.rounds := rfl
@[simp] theorem State.hold_deny (s : State) (n : Fin 32) (task : TableTask) : (s.hold n task).deny = s.deny := rfl
@[simp] theorem State.hold_check (s : State) (n : Fin 32) (task : TableTask) : (s.hold n task).check = s.check := rfl
@[simp] theorem State.hold_notice (s : State) (n : Fin 32) (task : TableTask) : (s.hold n task).notice = s.notice := rfl
@[simp] theorem State.hold_readData (s : State) (n : Fin 32) (task : TableTask) : (s.hold n task).readData = s.readData := rfl
@[simp] theorem State.hold_pending (s : State) (n : Fin 32) (task : TableTask) : (s.hold n task).pending = s.pending := rfl

/-! ### finishTable -/

@[simp] theorem State.finishTable_intake (s : State) (n : Fin 32) (answer : List Byte) : (s.finishTable n answer).intake = s.intake := rfl
@[simp] theorem State.finishTable_engine (s : State) (n : Fin 32) (answer : List Byte) : (s.finishTable n answer).engine = s.engine := rfl
@[simp] theorem State.finishTable_clock (s : State) (n : Fin 32) (answer : List Byte) : (s.finishTable n answer).clock = s.clock := rfl
@[simp] theorem State.finishTable_journey (s : State) (n : Fin 32) (answer : List Byte) : (s.finishTable n answer).journey = s.journey := rfl
@[simp] theorem State.finishTable_rounds (s : State) (n : Fin 32) (answer : List Byte) : (s.finishTable n answer).rounds = s.rounds := rfl
@[simp] theorem State.finishTable_deny (s : State) (n : Fin 32) (answer : List Byte) : (s.finishTable n answer).deny = s.deny := rfl
@[simp] theorem State.finishTable_check (s : State) (n : Fin 32) (answer : List Byte) : (s.finishTable n answer).check = s.check := rfl
@[simp] theorem State.finishTable_readData (s : State) (n : Fin 32) (answer : List Byte) : (s.finishTable n answer).readData = s.readData := rfl
@[simp] theorem State.finishTable_pending (s : State) (n : Fin 32) (answer : List Byte) : (s.finishTable n answer).pending = s.pending := rfl

/-! ### enterService -/

@[simp] theorem State.enterService_intake (s : State) (service : ServiceState) : (s.enterService service).intake = s.intake := State.rewriteMirror_intake _
@[simp] theorem State.enterService_engine (s : State) (service : ServiceState) : (s.enterService service).engine = s.engine := State.rewriteMirror_engine _
@[simp] theorem State.enterService_clock (s : State) (service : ServiceState) : (s.enterService service).clock = s.clock := State.rewriteMirror_clock _
@[simp] theorem State.enterService_journey (s : State) (service : ServiceState) : (s.enterService service).journey = s.journey := State.rewriteMirror_journey _
@[simp] theorem State.enterService_rounds (s : State) (service : ServiceState) : (s.enterService service).rounds = s.rounds := State.rewriteMirror_rounds _
@[simp] theorem State.enterService_deny (s : State) (service : ServiceState) : (s.enterService service).deny = s.deny := State.rewriteMirror_deny _
@[simp] theorem State.enterService_check (s : State) (service : ServiceState) : (s.enterService service).check = s.check := State.rewriteMirror_check _
@[simp] theorem State.enterService_notice (s : State) (service : ServiceState) : (s.enterService service).notice = s.notice := State.rewriteMirror_notice _
@[simp] theorem State.enterService_readData (s : State) (service : ServiceState) : (s.enterService service).readData = s.readData := State.rewriteMirror_readData _
@[simp] theorem State.enterService_pending (s : State) (service : ServiceState) : (s.enterService service).pending = s.pending := State.rewriteMirror_pending _

/-! ### setDenyList -/

@[simp] theorem State.setDenyList_intake (s : State) (l : List DenyEntry) : (s.setDenyList l).intake = s.intake := State.rewriteMirror_intake _
@[simp] theorem State.setDenyList_engine (s : State) (l : List DenyEntry) : (s.setDenyList l).engine = s.engine := State.rewriteMirror_engine _
@[simp] theorem State.setDenyList_clock (s : State) (l : List DenyEntry) : (s.setDenyList l).clock = s.clock := State.rewriteMirror_clock _
@[simp] theorem State.setDenyList_journey (s : State) (l : List DenyEntry) : (s.setDenyList l).journey = s.journey := State.rewriteMirror_journey _
@[simp] theorem State.setDenyList_table (s : State) (l : List DenyEntry) : (s.setDenyList l).table = s.table := State.rewriteMirror_table _
@[simp] theorem State.setDenyList_rounds (s : State) (l : List DenyEntry) : (s.setDenyList l).rounds = s.rounds := State.rewriteMirror_rounds _
@[simp] theorem State.setDenyList_check (s : State) (l : List DenyEntry) : (s.setDenyList l).check = s.check := State.rewriteMirror_check _
@[simp] theorem State.setDenyList_notice (s : State) (l : List DenyEntry) : (s.setDenyList l).notice = s.notice := State.rewriteMirror_notice _
@[simp] theorem State.setDenyList_readData (s : State) (l : List DenyEntry) : (s.setDenyList l).readData = s.readData := State.rewriteMirror_readData _
@[simp] theorem State.setDenyList_pending (s : State) (l : List DenyEntry) : (s.setDenyList l).pending = s.pending := State.rewriteMirror_pending _

/-! ### rearmCapture -/

@[simp] theorem State.rearmCapture_mem (s : State) : (s.rearmCapture).mem = s.mem := rfl
@[simp] theorem State.rearmCapture_intake (s : State) : (s.rearmCapture).intake = s.intake := rfl
@[simp] theorem State.rearmCapture_engine (s : State) : (s.rearmCapture).engine = s.engine := rfl
@[simp] theorem State.rearmCapture_clock (s : State) : (s.rearmCapture).clock = s.clock := rfl
@[simp] theorem State.rearmCapture_table (s : State) : (s.rearmCapture).table = s.table := rfl
@[simp] theorem State.rearmCapture_rounds (s : State) : (s.rearmCapture).rounds = s.rounds := rfl
@[simp] theorem State.rearmCapture_deny (s : State) : (s.rearmCapture).deny = s.deny := rfl
@[simp] theorem State.rearmCapture_check (s : State) : (s.rearmCapture).check = s.check := rfl
@[simp] theorem State.rearmCapture_readData (s : State) : (s.rearmCapture).readData = s.readData := rfl
@[simp] theorem State.rearmCapture_pending (s : State) : (s.rearmCapture).pending = s.pending := rfl

/-! ### terminate -/

@[simp] theorem State.terminate_mem (s : State) : (s.terminate).mem = s.mem := rfl
@[simp] theorem State.terminate_intake (s : State) : (s.terminate).intake = s.intake := rfl
@[simp] theorem State.terminate_engine (s : State) : (s.terminate).engine = s.engine := rfl
@[simp] theorem State.terminate_clock (s : State) : (s.terminate).clock = s.clock := rfl
@[simp] theorem State.terminate_journey (s : State) : (s.terminate).journey = s.journey := rfl
@[simp] theorem State.terminate_rounds (s : State) : (s.terminate).rounds = s.rounds := rfl
@[simp] theorem State.terminate_deny (s : State) : (s.terminate).deny = s.deny := rfl
@[simp] theorem State.terminate_check (s : State) : (s.terminate).check = s.check := rfl
@[simp] theorem State.terminate_readData (s : State) : (s.terminate).readData = s.readData := rfl
@[simp] theorem State.terminate_pending (s : State) : (s.terminate).pending = s.pending := rfl

/-! ### boundary -/

@[simp] theorem State.boundary_mem (s : State) : (s.boundary).mem = s.mem := rfl
@[simp] theorem State.boundary_intake (s : State) : (s.boundary).intake = s.intake := rfl
@[simp] theorem State.boundary_engine (s : State) : (s.boundary).engine = s.engine := rfl
@[simp] theorem State.boundary_clock (s : State) : (s.boundary).clock = s.clock := rfl
@[simp] theorem State.boundary_table (s : State) : (s.boundary).table = s.table := rfl
@[simp] theorem State.boundary_deny (s : State) : (s.boundary).deny = s.deny := rfl
@[simp] theorem State.boundary_check (s : State) : (s.boundary).check = s.check := rfl
@[simp] theorem State.boundary_readData (s : State) : (s.boundary).readData = s.readData := rfl
@[simp] theorem State.boundary_pending (s : State) : (s.boundary).pending = s.pending := rfl

/-! ### placeAtOrigin -/

@[simp] theorem State.placeAtOrigin_mem (s : State) (origin serviceDay : Nat) : (s.placeAtOrigin origin serviceDay).mem = s.mem := rfl
@[simp] theorem State.placeAtOrigin_intake (s : State) (origin serviceDay : Nat) : (s.placeAtOrigin origin serviceDay).intake = s.intake := rfl
@[simp] theorem State.placeAtOrigin_engine (s : State) (origin serviceDay : Nat) : (s.placeAtOrigin origin serviceDay).engine = s.engine := rfl
@[simp] theorem State.placeAtOrigin_clock (s : State) (origin serviceDay : Nat) : (s.placeAtOrigin origin serviceDay).clock = s.clock := rfl
@[simp] theorem State.placeAtOrigin_table (s : State) (origin serviceDay : Nat) : (s.placeAtOrigin origin serviceDay).table = s.table := rfl
@[simp] theorem State.placeAtOrigin_deny (s : State) (origin serviceDay : Nat) : (s.placeAtOrigin origin serviceDay).deny = s.deny := rfl
@[simp] theorem State.placeAtOrigin_check (s : State) (origin serviceDay : Nat) : (s.placeAtOrigin origin serviceDay).check = s.check := rfl
@[simp] theorem State.placeAtOrigin_readData (s : State) (origin serviceDay : Nat) : (s.placeAtOrigin origin serviceDay).readData = s.readData := rfl
@[simp] theorem State.placeAtOrigin_pending (s : State) (origin serviceDay : Nat) : (s.placeAtOrigin origin serviceDay).pending = s.pending := rfl

/-! ### endJourney -/

@[simp] theorem State.endJourney_mem (s : State) : (s.endJourney).mem = s.mem := rfl
@[simp] theorem State.endJourney_intake (s : State) : (s.endJourney).intake = s.intake := rfl
@[simp] theorem State.endJourney_engine (s : State) : (s.endJourney).engine = s.engine := rfl
@[simp] theorem State.endJourney_clock (s : State) : (s.endJourney).clock = s.clock := rfl
@[simp] theorem State.endJourney_table (s : State) : (s.endJourney).table = s.table := rfl
@[simp] theorem State.endJourney_deny (s : State) : (s.endJourney).deny = s.deny := rfl
@[simp] theorem State.endJourney_check (s : State) : (s.endJourney).check = s.check := rfl
@[simp] theorem State.endJourney_readData (s : State) : (s.endJourney).readData = s.readData := rfl
@[simp] theorem State.endJourney_pending (s : State) : (s.endJourney).pending = s.pending := rfl

/-! ### dayChanged -/

@[simp] theorem State.dayChanged_mem (s : State) (day : Nat) : (s.dayChanged day).mem = s.mem := rfl
@[simp] theorem State.dayChanged_intake (s : State) (day : Nat) : (s.dayChanged day).intake = s.intake := rfl
@[simp] theorem State.dayChanged_engine (s : State) (day : Nat) : (s.dayChanged day).engine = s.engine := rfl
@[simp] theorem State.dayChanged_clock (s : State) (day : Nat) : (s.dayChanged day).clock = s.clock := rfl
@[simp] theorem State.dayChanged_journey (s : State) (day : Nat) : (s.dayChanged day).journey = s.journey := rfl
@[simp] theorem State.dayChanged_table (s : State) (day : Nat) : (s.dayChanged day).table = s.table := rfl
@[simp] theorem State.dayChanged_rounds (s : State) (day : Nat) : (s.dayChanged day).rounds = s.rounds := rfl
@[simp] theorem State.dayChanged_check (s : State) (day : Nat) : (s.dayChanged day).check = s.check := rfl
@[simp] theorem State.dayChanged_readData (s : State) (day : Nat) : (s.dayChanged day).readData = s.readData := rfl
@[simp] theorem State.dayChanged_pending (s : State) (day : Nat) : (s.dayChanged day).pending = s.pending := rfl

/-! ### What the updates write -/

@[simp] theorem State.store_mem (s : State) (a : Nat) (bs : List Byte) : (s.store a bs).mem = s.mem.writeList a bs := rfl
@[simp] theorem State.setFlight_engine (s : State) (f : Flight) :
    (s.setFlight f).engine = { s.engine with flight := some f } := rfl
@[simp] theorem State.hold_table (s : State) (n : Fin 32) (task : TableTask) :
    (s.hold n task).table = { s.table with held := some (n, task) } := rfl
@[simp] theorem State.finishTable_table (s : State) (n : Fin 32) (answer : List Byte) :
    (s.finishTable n answer).table = { s.table with held := none } := rfl
@[simp] theorem State.enterService_table (s : State) (service : ServiceState) :
    (s.enterService service).table = { s.table with service := service } := State.rewriteMirror_table _
@[simp] theorem State.setDenyList_deny (s : State) (l : List DenyEntry) :
    (s.setDenyList l).deny = { s.deny with list := l } := State.rewriteMirror_deny _
@[simp] theorem State.rearmCapture_journey (s : State) :
    s.rearmCapture.journey = { s.journey with capture := none } := rfl
@[simp] theorem State.terminate_table (s : State) : s.terminate.table = { s.table with service := .terminated } := rfl
@[simp] theorem State.boundary_journey (s : State) :
    s.boundary.journey = { s.journey with round := s.journey.round + 1, capture := none } := rfl
@[simp] theorem State.boundary_rounds (s : State) : s.boundary.rounds = [] := rfl
@[simp] theorem State.placeAtOrigin_journey (s : State) (origin serviceDay : Nat) :
    (s.placeAtOrigin origin serviceDay).journey =
      { s.journey with kind := .atStop, stop := origin, round := 1, serviceDay := serviceDay, capture := none } := rfl
@[simp] theorem State.placeAtOrigin_rounds (s : State) (origin serviceDay : Nat) :
    (s.placeAtOrigin origin serviceDay).rounds = [] := rfl
@[simp] theorem State.endJourney_journey (s : State) :
    s.endJourney.journey =
      { s.journey with kind := .nowhere, stop := 0, round := 0, serviceDay := 0, capture := none } := rfl
@[simp] theorem State.endJourney_rounds (s : State) : s.endJourney.rounds = [] := rfl
@[simp] theorem State.dayChanged_deny (s : State) (day : Nat) : (s.dayChanged day).deny = s.deny.dayChange day := rfl
@[simp] theorem State.completeDeny_deny (s : State) : s.completeDeny.deny = s.deny.complete := rfl
@[simp] theorem State.chooseCheck_check (s : State) : s.chooseCheck.check = s.check.choose := rfl
@[simp] theorem State.askEngineJob_check (s : State) (run : List Byte) :
    (s.askEngineJob run).check = { s.check with engineJob := some run } := rfl
@[simp] theorem State.askTableJob_check (s : State) (base length : Nat) :
    (s.askTableJob base length).check =
      { s.check with
        tableJob := some { base := base, length := length, position := 0, remainder := checkPreset } } := rfl
@[simp] theorem State.askEngineLookup_deny (s : State) (media day : Nat) :
    (s.askEngineLookup media day).deny = { s.deny with engineLookup := some (media, day) } := rfl
@[simp] theorem State.askProbeLookup_deny (s : State) (media : Nat) :
    (s.askProbeLookup media).deny = { s.deny with probeLookup := some media } := rfl
@[simp] theorem State.handEdit_deny (s : State) (e : Edit) :
    (s.handEdit e).deny = { s.deny with edit := some e } := rfl
@[simp] theorem State.take_intake (s : State) (q : QueueId) (n : Fin 32) :
    (s.take q n).intake = s.intake.setQueue q (s.intake.queue q).tail := rfl

/-! ### The registers through the updates of the notice unit -/

@[simp] theorem State.raise_flags (s : State) (f : EventFlag) : (s.raise f).notice.flags = s.notice.flags ||| f.bit := rfl
@[simp] theorem State.clearFlag_flags (s : State) (f : EventFlag) :
    (s.clearFlag f).notice.flags = s.notice.flags &&& ~~~ f.bit := rfl
@[simp] theorem State.driveNote_noteN (s : State) : s.driveNote.notice.noteN = !s.anyPending := rfl
@[simp] theorem State.driveNote_flags (s : State) : s.driveNote.notice.flags = s.notice.flags := rfl
@[simp] theorem State.driveNote_latch (s : State) : s.driveNote.notice.latch = s.notice.latch := rfl
@[simp] theorem State.driveNote_enable (s : State) : s.driveNote.notice.enable = s.notice.enable := rfl
@[simp] theorem State.driveNote_mode (s : State) : s.driveNote.notice.mode = s.notice.mode := rfl
@[simp] theorem State.driveNote_watermark (s : State) : s.driveNote.notice.watermark = s.notice.watermark := rfl
@[simp] theorem State.driveNote_journeyFirst (s : State) :
    s.driveNote.notice.journeyFirst = s.notice.journeyFirst := rfl
@[simp] theorem State.driveNote_readyCount (s : State) : s.driveNote.notice.readyCount = s.notice.readyCount := rfl
@[simp] theorem State.driveNote_doneCount (s : State) : s.driveNote.notice.doneCount = s.notice.doneCount := rfl
@[simp] theorem State.driveNote_inspectDone (s : State) : s.driveNote.notice.inspectDone = s.notice.inspectDone := rfl
@[simp] theorem State.driveNote_otherDone (s : State) : s.driveNote.notice.otherDone = s.notice.otherDone := rfl
@[simp] theorem State.driveNote_anyPending (s : State) : s.driveNote.anyPending = s.anyPending := rfl
@[simp] theorem State.setCellState_notice (s : State) (n : Fin 32) (c : CellState) :
    (s.setCellState n c).notice = s.notice.cellChanged n (s.kindOf n) (s.cellState n) c := rfl
@[simp] theorem State.setCellState_flags (s : State) (n : Fin 32) (c : CellState) :
    (s.setCellState n c).notice.flags = s.notice.flags := rfl
@[simp] theorem State.take_flags (s : State) (q : QueueId) (n : Fin 32) :
    (s.take q n).notice.flags = s.notice.flags := rfl
@[simp] theorem State.post_flags (s : State) (n : Fin 32) (answer : List Byte) (body : Option (List Byte)) :
    (s.post n answer body).notice.flags = s.notice.flags := by cases body <;> rfl
@[simp] theorem State.finishTable_flags (s : State) (n : Fin 32) (answer : List Byte) :
    (s.finishTable n answer).notice.flags = s.notice.flags := rfl

/-- The arrival kinds are no queue's. -/
@[simp] theorem Intake.setQueue_arrivalKind (q : Intake) (id : QueueId) (l : List (Fin 32)) :
    (q.setQueue id l).arrivalKind = q.arrivalKind := by cases id <;> rfl

/-- A queue set is the queue read. -/
@[simp] theorem Intake.queue_setQueue (q : Intake) (id : QueueId) (l : List (Fin 32)) :
    (q.setQueue id l).queue id = l := by cases id <;> rfl

/-- The other queues stand. -/
theorem Intake.queue_setQueue_of_ne (q : Intake) {id other : QueueId} (h : other ≠ id) (l : List (Fin 32)) :
    (q.setQueue id l).queue other = q.queue other := by
  cases id <;> cases other <;> first | rfl | exact absurd rfl h

end Sys2Proof.Machine
end

