-- ==== Sys2Proof/Laws/Check.lean ====
section
/-! SUPPORT. The check unit: the remainder over joined runs, and its order of service. -/

namespace Sys2Proof.Machine

/-! ### The computation (R160, R162) -/

@[simp] theorem checkFrom_nil (r : Word) : checkFrom r [] = r := rfl

@[simp] theorem checkFrom_cons (r : Word) (b : Byte) (bs : List Byte) :
    checkFrom r (b :: bs) = checkFrom (checkByte r b) bs := rfl

/-- A run taken in two pieces has the remainder of the whole (R162). -/
theorem checkFrom_append (r : Word) (as bs : List Byte) :
    checkFrom r (as ++ bs) = checkFrom (checkFrom r as) bs := by
  simp [checkFrom]

/-- The remainder is linear in the remainder begun from: two starts differ as their difference does over a run of
zeros. -/
theorem checkBit_xor (r q : Word) (a b : Bool) : checkBit (r ^^^ q) (a ^^ b) = checkBit r a ^^^ checkBit q b := by
  have h := BitVec.getLsbD_xor (x := r) (y := q) (i := 15)
  unfold checkBit
  rw [h]
  cases r.getLsbD 15 <;> cases q.getLsbD 15 <;> cases a <;> cases b <;>
    simp only [BitVec.shiftLeft_xor_distrib, Bool.xor_false, Bool.xor_true, Bool.not_true,
      Bool.not_false, if_true, if_false, Bool.false_eq_true]
  all_goals first
    | rfl
    | ac_rfl
    | rw [show ∀ a b c : Word, (a ^^^ c) ^^^ (b ^^^ c) = a ^^^ b from fun a b c => by
        rw [BitVec.xor_assoc, BitVec.xor_comm b, ← BitVec.xor_assoc c, BitVec.xor_self, BitVec.zero_xor]]

theorem checkByte_xor (r q : Word) (a b : Byte) : checkByte (r ^^^ q) (a ^^^ b) = checkByte r a ^^^ checkByte q b := by
  simp only [checkByte, List.foldl_cons, List.foldl_nil, BitVec.getLsbD_xor, checkBit_xor]

/-- Two runs of one length: the remainders differ by the remainder of their difference (R160). -/
theorem checkFrom_xor (r q : Word) (as bs : List Byte) (h : as.length = bs.length) :
    checkFrom (r ^^^ q) (List.zipWith (· ^^^ ·) as bs) = checkFrom r as ^^^ checkFrom q bs := by
  induction as generalizing r q bs with
  | nil =>
    cases bs with
    | nil => rfl
    | cons b bs => simp at h
  | cons a as ih =>
    cases bs with
    | nil => simp at h
    | cons b bs =>
      simp only [List.zipWith_cons_cons, checkFrom_cons, checkByte_xor]
      exact ih _ _ _ (by simpa using h)

/-! ### Order of service (R164) -/

theorem CheckUnit.choose_of_serving {u : CheckUnit} (h : u.serving.isSome = true) : u.choose = u := by
  obtain ⟨_ | w, e, t⟩ := u
  · simp at h
  · rfl

/-- Choosing changes nothing but the work in service, and an idle unit serves a verdict-engine job first, then the
next piece of a table-unit job (R164). -/
theorem CheckUnit.choose_spec (u : CheckUnit) :
    u.choose = { u with serving :=
      if u.serving.isSome then u.serving
      else if u.engineJob.isSome then some { owner := .verdictEngine, remainder := checkPreset }
      else u.tableJob.map fun j => { owner := .tableUnit, remainder := j.remainder } } := by
  obtain ⟨_ | w, _ | e, _ | t⟩ := u <;> rfl

@[simp] theorem CheckUnit.choose_engineJob (u : CheckUnit) : u.choose.engineJob = u.engineJob := by
  rw [CheckUnit.choose_spec]
@[simp] theorem CheckUnit.choose_tableJob (u : CheckUnit) : u.choose.tableJob = u.tableJob := by
  rw [CheckUnit.choose_spec]

/-- After a choice the unit is idle only when no job waits. -/
theorem CheckUnit.choose_idle_iff (u : CheckUnit) :
    u.choose.serving = none ↔ u.serving = none ∧ u.engineJob = none ∧ u.tableJob = none := by
  obtain ⟨_ | w, _ | e, _ | t⟩ := u <;> simp [CheckUnit.choose]

/-- After a choice the unit serves only a job that is there. -/
theorem CheckUnit.choose_busy {u : CheckUnit} (h : u.serving = none ∨ u.busy) : u.choose.busy := by
  obtain ⟨_ | ⟨_ | _, _⟩, _ | e, _ | t⟩ := u <;> simp_all [CheckUnit.choose, CheckUnit.busy]

end Sys2Proof.Machine
end

