-- ==== Sys2Proof/Laws/Lists.lean ====
section
/-! SUPPORT. The two lists of media: what a lookup finds after each change of a list, and that each change keeps the
list's form; the deny list unit's order of service. -/

namespace Sys2Proof.Machine

/-! ### The deny list (R101, R111, R112) -/

/-- A list of entries in strictly rising media ID. -/
abbrev DenySorted (l : List DenyEntry) : Prop :=
  (l.map DenyEntry.mediaId).Pairwise (· < ·)

theorem denySorted_cons {e : DenyEntry} {l : List DenyEntry} :
    DenySorted (e :: l) ↔ (∀ x ∈ l, e.mediaId < x.mediaId) ∧ DenySorted l := by
  simp [DenySorted]

theorem denyEntry_cons (x : DenyEntry) (l : List DenyEntry) (k : Nat) :
    denyEntry (x :: l) k = if x.mediaId = k then some x else denyEntry l k := by
  by_cases h : x.mediaId = k <;> simp [denyEntry, h]

/-- In a sorted list the entry found is the one entry with the media ID. -/
theorem denyEntry_eq_some {l : List DenyEntry} (h : DenySorted l) {k : Nat} {e : DenyEntry} :
    denyEntry l k = some e ↔ e ∈ l ∧ e.mediaId = k := by
  induction l with
  | nil => simp [denyEntry]
  | cons x l ih =>
    obtain ⟨hx, hl⟩ := denySorted_cons.1 h
    rw [denyEntry_cons]
    by_cases hk : x.mediaId = k
    · rw [if_pos hk]
      constructor
      · rintro ⟨⟩
        exact ⟨List.mem_cons_self .., hk⟩
      · rintro ⟨he, hke⟩
        rcases List.mem_cons.1 he with rfl | he
        · rfl
        · have := hx _ he
          omega
    · rw [if_neg hk, ih hl]
      constructor
      · exact fun ⟨he, hke⟩ => ⟨List.mem_cons_of_mem _ he, hke⟩
      · rintro ⟨he, hke⟩
        rcases List.mem_cons.1 he with rfl | he
        · exact absurd hke hk
        · exact ⟨he, hke⟩

/-- A media ID below every entry is not held. -/
theorem denyEntry_eq_none_of_lt {l : List DenyEntry} {k : Nat} (h : ∀ x ∈ l, k < x.mediaId) : denyEntry l k = none := by
  simp only [denyEntry, List.find?_eq_none, beq_iff_eq]
  intro x hx
  have := h x hx
  omega

theorem mem_denyInsert {l : List DenyEntry} {e x : DenyEntry} (h : x ∈ denyInsert l e) : x = e ∨ x ∈ l := by
  induction l with
  | nil => simpa [denyInsert] using h
  | cons y l ih =>
    simp only [denyInsert] at h
    split at h
    · simpa using h
    · split at h
      · rcases List.mem_cons.1 h with h | h
        · exact .inl h
        · exact .inr (List.mem_cons_of_mem _ h)
      · rcases List.mem_cons.1 h with h | h
        · exact .inr (h ▸ List.mem_cons_self ..)
        · exact (ih h).imp id (List.mem_cons_of_mem _)

/-- An ADD keeps the order (R111). -/
theorem denyInsert_sorted {l : List DenyEntry} (h : DenySorted l) (e : DenyEntry) : DenySorted (denyInsert l e) := by
  induction l with
  | nil => simp [denyInsert, DenySorted]
  | cons y l ih =>
    obtain ⟨hy, hl⟩ := denySorted_cons.1 h
    simp only [denyInsert]
    split
    · refine denySorted_cons.2 ⟨fun x hx => ?_, h⟩
      rcases List.mem_cons.1 hx with rfl | hx
      · assumption
      · exact lt_trans ‹_› (hy x hx)
    · split
      · refine denySorted_cons.2 ⟨fun x hx => ?_, hl⟩
        rename_i heq
        exact heq ▸ hy x hx
      · refine denySorted_cons.2 ⟨fun x hx => ?_, ih hl⟩
        rcases mem_denyInsert hx with rfl | hx
        · omega
        · exact hy x hx

/-- After an ADD the medium's entry is the one added, and every other is as before (R111). -/
theorem denyEntry_denyInsert {l : List DenyEntry} (h : DenySorted l) (e : DenyEntry) (k : Nat) :
    denyEntry (denyInsert l e) k = if k = e.mediaId then some e else denyEntry l k := by
  induction l with
  | nil => simp [denyInsert, denyEntry_cons, eq_comm]
  | cons y l ih =>
    obtain ⟨hy, hl⟩ := denySorted_cons.1 h
    simp only [denyInsert]
    split
    · rw [denyEntry_cons]
      by_cases hk : k = e.mediaId
      · simp [hk]
      · rw [if_neg (Ne.symm hk), if_neg hk]
    · split
      · rename_i heq
        rw [denyEntry_cons, denyEntry_cons]
        by_cases hk : k = e.mediaId
        · simp [hk]
        · rw [if_neg (Ne.symm hk), if_neg hk, if_neg (by omega)]
      · rw [denyEntry_cons, ih hl, denyEntry_cons]
        by_cases hk : k = e.mediaId
        · rw [if_pos hk, if_pos hk, if_neg (by omega)]
        · rw [if_neg hk, if_neg hk]

/-- An ADD of an absent medium makes the list one longer, of a present one leaves its length. -/
theorem denyInsert_length {l : List DenyEntry} (h : DenySorted l) (e : DenyEntry) :
    (denyInsert l e).length = l.length + (denyEntry l e.mediaId).isNone.toNat := by
  induction l with
  | nil => simp [denyInsert, denyEntry]
  | cons y l ih =>
    obtain ⟨hy, hl⟩ := denySorted_cons.1 h
    simp only [denyInsert]
    split
    · rw [denyEntry_eq_none_of_lt]
      · simp
      · intro x hx
        rcases List.mem_cons.1 hx with rfl | hx
        · assumption
        · exact lt_trans ‹_› (hy x hx)
    · split
      · simp [denyEntry_cons, *]
      · rw [List.length_cons, ih hl, denyEntry_cons, if_neg (by omega), List.length_cons]
        omega

theorem denyRemove_sorted {l : List DenyEntry} (h : DenySorted l) (k : Nat) : DenySorted (denyRemove l k) :=
  h.sublist (List.Sublist.map _ List.filter_sublist)

/-- After a DELETE the medium has no entry, and every other is as before (R112). -/
theorem denyEntry_denyRemove (l : List DenyEntry) (k x : Nat) :
    denyEntry (denyRemove l k) x = if x = k then none else denyEntry l x := by
  induction l with
  | nil => simp [denyRemove, denyEntry]
  | cons y l ih =>
    by_cases hy : y.mediaId = k
    · rw [denyRemove, List.filter_cons_of_neg (by simp [hy]), ← denyRemove, ih, denyEntry_cons]
      by_cases hx : x = k
      · simp [hx]
      · rw [if_neg hx, if_neg hx, if_neg (by omega)]
    · rw [denyRemove, List.filter_cons_of_pos (by simp [hy]), ← denyRemove, denyEntry_cons, ih, denyEntry_cons]
      by_cases hx : x = k
      · rw [if_pos hx, if_pos hx, if_neg (by omega)]
      · rw [if_neg hx, if_neg hx]

theorem denyRemove_length_le (l : List DenyEntry) (k : Nat) : (denyRemove l k).length ≤ l.length :=
  List.length_filter_le ..

/-! ### Order of service at the deny list unit (R105, R106) -/

/-- A unit that serves an operation goes on with it. -/
theorem DenyUnit.choose_of_serving {u : DenyUnit} (h : u.serving.isSome = true) : u.choose = u := by
  obtain ⟨l, w, d, e, p, x, _ | v⟩ := u
  · simp at h
  · rfl

/-- What a free unit serves next: a lookup, then a sweep step, then an edit. -/
theorem DenyUnit.next_spec (u : DenyUnit) : u.next =
    if u.engineLookup.isSome && u.probeLookup.isSome then some (.lookup none)
    else if u.engineLookup.isSome then some (.lookup (some .verdictEngine))
    else if u.probeLookup.isSome then some (.lookup (some .tableUnit))
    else if u.sweep.isSome then some .sweepStep
    else if u.edit.isSome then some .edit
    else none := by
  obtain ⟨l, _ | w, d, _ | e, _ | p, _ | x, v⟩ := u <;> rfl

/-- The end of an event changes nothing but the operation in service, and begins what a free unit chooses, but no sweep
step. -/
theorem DenyUnit.advance_spec (u : DenyUnit) : u.advance = { u with
    serving := if u.next = some .sweepStep then u.serving else u.serving.or u.next } := by
  unfold DenyUnit.advance
  split <;> rfl

/-- After an edit nothing changes but the operation in service, and a free unit begins a lookup that waits. -/
theorem DenyUnit.beginLookup_spec (u : DenyUnit) : u.beginLookup = { u with
    serving :=
      if u.serving.isSome then u.serving
      else if u.engineLookup.isSome && u.probeLookup.isSome then some (.lookup none)
      else if u.engineLookup.isSome then some (.lookup (some .verdictEngine))
      else if u.probeLookup.isSome then some (.lookup (some .tableUnit))
      else none } := by
  obtain ⟨l, _ | w, d, _ | e, _ | p, x, _ | v⟩ := u <;> rfl

theorem DenyUnit.advance_of_serving {u : DenyUnit} (h : u.serving.isSome = true) : u.advance = u := by
  unfold DenyUnit.advance
  split
  · rfl
  · exact DenyUnit.choose_of_serving h

@[simp] theorem DenyUnit.choose_list (u : DenyUnit) : u.choose.list = u.list := rfl
@[simp] theorem DenyUnit.advance_list (u : DenyUnit) : u.advance.list = u.list := by rw [DenyUnit.advance_spec]
@[simp] theorem DenyUnit.choose_sweep (u : DenyUnit) : u.choose.sweep = u.sweep := rfl
@[simp] theorem DenyUnit.advance_sweep (u : DenyUnit) : u.advance.sweep = u.sweep := by rw [DenyUnit.advance_spec]
@[simp] theorem DenyUnit.choose_dayWaiting (u : DenyUnit) : u.choose.dayWaiting = u.dayWaiting := rfl
@[simp] theorem DenyUnit.advance_dayWaiting (u : DenyUnit) : u.advance.dayWaiting = u.dayWaiting := by rw [DenyUnit.advance_spec]
@[simp] theorem DenyUnit.choose_engineLookup (u : DenyUnit) : u.choose.engineLookup = u.engineLookup := rfl
@[simp] theorem DenyUnit.advance_engineLookup (u : DenyUnit) : u.advance.engineLookup = u.engineLookup := by rw [DenyUnit.advance_spec]
@[simp] theorem DenyUnit.choose_probeLookup (u : DenyUnit) : u.choose.probeLookup = u.probeLookup := rfl
@[simp] theorem DenyUnit.advance_probeLookup (u : DenyUnit) : u.advance.probeLookup = u.probeLookup := by rw [DenyUnit.advance_spec]
@[simp] theorem DenyUnit.choose_edit (u : DenyUnit) : u.choose.edit = u.edit := rfl
@[simp] theorem DenyUnit.advance_edit (u : DenyUnit) : u.advance.edit = u.edit := by rw [DenyUnit.advance_spec]

/-- A completion frees the unit, leaves the list and the waiting work, and begins the sweep of a DAY_CHANGE that waited
(R106). -/
theorem DenyUnit.complete_spec (u : DenyUnit) :
    u.complete = { u with
      sweep := match u.dayWaiting with
        | some day => u.list.head?.map fun e => { day := day, position := e.mediaId }
        | none => u.sweep
      dayWaiting := none
      serving := none } := by
  obtain ⟨l, w, _ | d, e, p, x, v⟩ := u <;> rfl

/-- A DAY_CHANGE leaves the list, the waiting work and the operation in service, and begins its sweep at once when the
unit is free (R106). -/
theorem DenyUnit.dayChange_spec (u : DenyUnit) (day : Nat) :
    u.dayChange day = { u with
      sweep := if u.serving.isSome then u.sweep
        else u.list.head?.map fun e => { day := day, position := e.mediaId }
      dayWaiting := if u.serving.isSome then some day else u.dayWaiting } := by
  unfold DenyUnit.dayChange
  split <;> rfl

/-- A free unit with an edit waiting and no sweep in progress serves that edit, and an edit is served only so or where
it is in service (R105). -/
theorem DenyUnit.choose_edit_iff (u : DenyUnit) : u.choose.serving = some .edit ↔
    u.serving = some .edit ∨
      u.serving = none ∧ u.engineLookup = none ∧ u.probeLookup = none ∧ u.sweep = none ∧ u.edit.isSome = true := by
  obtain ⟨l, _ | w, d, _ | e, _ | p, _ | x, _ | v⟩ := u <;>
    simp [DenyUnit.choose, DenyUnit.next, DenyUnit.waitingLookup]

/-- A free unit serves a requester's lookup exactly when that lookup waits, and a unit that serves one of a requester
serves no other's (R104, R105). -/
theorem DenyUnit.serves_iff (u : DenyUnit) (who : LookupRequester) : u.serves who = true ↔
    u.serving = some (.lookup none) ∨ u.serving = some (.lookup (some who)) ∨
      u.serving = none ∧ (who = .verdictEngine ∧ u.engineLookup.isSome = true ∨
        who = .tableUnit ∧ u.probeLookup.isSome = true) := by
  obtain ⟨l, _ | w, d, _ | e, _ | p, _ | x, _ | ⟨_ | ⟨_ | _⟩⟩ | _ | _⟩ := u <;> cases who <;>
    simp [DenyUnit.serves, DenyUnit.choose, DenyUnit.next, DenyUnit.waitingLookup]

/-! ### The round list (R83 to R89) -/

theorem roundEntry_cons (x : RoundEntry) (l : List RoundEntry) (k : Nat) :
    roundEntry (x :: l) k = if x.mediaId = k then some x else roundEntry l k := by
  by_cases h : x.mediaId = k <;> simp [roundEntry, h]

theorem roundEntry_mem {l : List RoundEntry} {k : Nat} {e : RoundEntry} (h : roundEntry l k = some e) :
    e ∈ l ∧ e.mediaId = k :=
  ⟨List.mem_of_find?_eq_some h, by simpa using List.find?_some h⟩

theorem roundEntry_eq_none {l : List RoundEntry} {k : Nat} :
    roundEntry l k = none ↔ k ∉ l.map RoundEntry.mediaId := by
  simp [roundEntry]

/-- Raising a presented count changes no medium and no length (R86). -/
@[simp] theorem raisePresented_mediaId (l : List RoundEntry) (k : Nat) :
    (raisePresented l k).map RoundEntry.mediaId = l.map RoundEntry.mediaId := by
  simp only [raisePresented, List.map_map]
  refine List.map_congr_left fun e _ => ?_
  simp only [Function.comp_apply]
  split <;> rfl

@[simp] theorem raisePresented_length (l : List RoundEntry) (k : Nat) : (raisePresented l k).length = l.length := by
  simp [raisePresented]

theorem roundAppend_length_le {l : List RoundEntry} (h : l.length ≤ Config.roundListSize) (e : RoundEntry) :
    (roundAppend l e).length ≤ Config.roundListSize := by
  simp only [roundAppend, Config.roundListSize] at *
  split <;> simp <;> omega

/-- An insertion keeps the list's form (R83, R87 to R89). -/
theorem roundInsert_sound {l : List RoundEntry} (e : RoundEntry) (hl : l.length ≤ Config.roundListSize)
    (hd : (l.map RoundEntry.mediaId).Nodup) :
    (roundInsert l e).1.length ≤ Config.roundListSize ∧
      ((roundInsert l e).1.map RoundEntry.mediaId).Nodup := by
  unfold roundInsert
  split
  · simpa using ⟨hl, hd⟩
  · rename_i h
    refine ⟨roundAppend_length_le hl _, ?_⟩
    have he := roundEntry_eq_none.1 h
    have key : ∀ l', List.Sublist l' l →
        ((l' ++ [{ e with presented := 1 }]).map RoundEntry.mediaId).Nodup := by
      intro l' hs
      rw [List.map_append, List.nodup_append]
      refine ⟨hd.sublist (hs.map _), by simp, ?_⟩
      rintro a ha b hb rfl
      simp only [List.map_cons, List.map_nil, List.mem_singleton] at hb
      exact he (hb ▸ (hs.map _).subset ha)
    simp only [roundAppend]
    split
    · exact key _ (List.tail_sublist l)
    · exact key _ (List.Sublist.refl l)

end Sys2Proof.Machine
end

