-- ==== Sys2Proof/Laws/Inspection.lean ====
section
/-! SUPPORT. What the steps of an inspection can change: each leaves every field of the state that its equation does
not name, and forms the parts of the flight that its rule gives. -/

namespace Sys2Proof.Machine

/-! ### Asking the other units -/

/-- Asking for an image check fills the verdict engine's slot (R163). -/
theorem State.askEngineJob_spec (s : State) (run : List Byte) :
    s.askEngineJob run = { s with check := { s.check with engineJob := some run } } := rfl

/-- Asking for a check of a run of exchange memory fills the table unit's slot (R163). -/
theorem State.askTableJob_spec (s : State) (base length : Nat) :
    s.askTableJob base length = { s with check := { s.check with
      tableJob := some { base := base, length := length, position := 0, remainder := checkPreset } } } := rfl

/-- Asking for a lookup leaves it waiting (R104). -/
theorem State.askEngineLookup_spec (s : State) (media day : Nat) :
    s.askEngineLookup media day = { s with deny := { s.deny with engineLookup := some (media, day) } } := rfl

theorem State.askProbeLookup_spec (s : State) (media : Nat) :
    s.askProbeLookup media = { s with deny := { s.deny with probeLookup := some media } } := rfl

/-- Handing over an edit leaves it waiting (R110). -/
theorem State.handEdit_spec (s : State) (e : Edit) :
    s.handEdit e = { s with deny := { s.deny with edit := some e } } := rfl

/-! ### The take (R15 to R20) -/

/-- A take begins an inspection of its cell with the snapshot of the blocks as they stand, and touches nothing but the
flight and the check unit's slot for it. -/
theorem State.beginInspection_spec (s : State) (n : Fin 32) :
    ∃ f, f.cell = n ∧ f.snap = s.snapshot ∧ f.image = none ∧ f.sequence = 0 ∧
      s.beginInspection n = { s with
        engine := { s.engine with flight := some f }
        check := { s.check with engineJob := (s.beginInspection n).check.engineJob } } := by
  unfold State.beginInspection
  simp only
  split
  · exact ⟨_, rfl, rfl, rfl, rfl, rfl⟩
  · split
    · exact ⟨_, rfl, rfl, rfl, rfl, rfl⟩
    · split
      · exact ⟨_, rfl, rfl, rfl, rfl, rfl⟩
      · rw [State.askEngineJob_spec]
        exact ⟨_, rfl, rfl, rfl, rfl, rfl⟩

/-! ### The stages (R20 to R28) -/

/-- Stages 1 to 3 judge the flight or ask for its deny lookup, and touch nothing else. -/
theorem State.afterImageCheck_spec (s : State) (f : Flight) (residue : Word) :
    ∃ g, g.cell = f.cell ∧ g.snap = f.snap ∧ g.image = f.image ∧ g.sequence = f.sequence ∧
      s.afterImageCheck f residue = { s with
        engine := { s.engine with flight := some g }
        deny := { s.deny with engineLookup := (s.afterImageCheck f residue).deny.engineLookup } } := by
  unfold State.afterImageCheck
  simp only
  split
  · refine ⟨_, ?_, ?_, ?_, ?_, rfl⟩ <;> rfl
  · split
    · refine ⟨_, ?_, ?_, ?_, ?_, rfl⟩ <;> rfl
    · split
      · refine ⟨_, ?_, ?_, ?_, ?_, rfl⟩ <;> rfl
      · rw [State.askEngineLookup_spec]
        refine ⟨_, ?_, ?_, ?_, ?_, rfl⟩ <;> rfl

/-- A judged flight carries the verdict given and keeps its cell, snapshot and image. -/
@[simp] theorem Flight.judge_stage (f : Flight) (v : Verdict) (d : Byte) : (f.judge v d).stage = .judged v := rfl
@[simp] theorem Flight.judge_detail (f : Flight) (v : Verdict) (d : Byte) : (f.judge v d).detail = d := rfl
@[simp] theorem Flight.judge_verdict (f : Flight) (v : Verdict) (d : Byte) : (f.judge v d).verdict = some v := rfl
@[simp] theorem Flight.judge_cell (f : Flight) (v : Verdict) (d : Byte) : (f.judge v d).cell = f.cell := rfl
@[simp] theorem Flight.judge_snap (f : Flight) (v : Verdict) (d : Byte) : (f.judge v d).snap = f.snap := rfl
@[simp] theorem Flight.judge_image (f : Flight) (v : Verdict) (d : Byte) : (f.judge v d).image = f.image := rfl
@[simp] theorem Flight.judge_zones (f : Flight) (v : Verdict) (d : Byte) : (f.judge v d).zones = f.zones := rfl
@[simp] theorem Flight.judge_sequence (f : Flight) (v : Verdict) (d : Byte) : (f.judge v d).sequence = f.sequence := rfl
@[simp] theorem Flight.judge_rideDue (f : Flight) (v : Verdict) (d : Byte) : (f.judge v d).rideDue = f.rideDue := rfl
@[simp] theorem Flight.judge_coveredCount (f : Flight) (v : Verdict) (d : Byte) :
    (f.judge v d).coveredCount = f.coveredCount := rfl

/-- What coverage, rides and time leave of a flight: its cell, its snapshot, its image and its sequence. -/
abbrev Flight.sameCard (f g : Flight) : Prop :=
  g.cell = f.cell ∧ g.snap = f.snap ∧ g.image = f.image ∧ g.sequence = f.sequence

/-- Stage 8 gives one of the four coverage verdicts (R27, R28). -/
theorem Flight.judgeCoverage_spec (f : Flight) (m : Memory) (t : Ticket) :
    f.sameCard (f.judgeCoverage m t) ∧ (f.judgeCoverage m t).rideDue = f.rideDue ∧
      ∃ v ∈ [Verdict.noCover, .shortfall, .validGrace, .valid], (f.judgeCoverage m t).stage = .judged v := by
  have hz : ∀ c z g, coverageVerdict c z g ∈ [Verdict.noCover, .shortfall, .validGrace, .valid] := by
    intro c z g
    unfold coverageVerdict
    split
    · simp
    · split
      · simp
      · split <;> simp
  unfold Flight.judgeCoverage
  split
  · unfold Flight.judgeCheckin
    split
    · exact ⟨⟨rfl, rfl, rfl, rfl⟩, rfl, _, by simp, rfl⟩
    · simp only
      split
      · exact ⟨⟨rfl, rfl, rfl, rfl⟩, rfl, _, by simp, rfl⟩
      · refine ⟨⟨rfl, rfl, rfl, rfl⟩, rfl, _, ?_, rfl⟩
        split <;> simp
  · exact ⟨⟨rfl, rfl, rfl, rfl⟩, rfl, _, hz _ _ _, rfl⟩

/-- Stages 7 and 8 give EXHAUSTED or a coverage verdict (R26 to R28). -/
theorem Flight.judgeRides_spec (f : Flight) (m : Memory) (t : Ticket) :
    f.sameCard (f.judgeRides m t) ∧
      ∃ v ∈ [Verdict.exhausted, .noCover, .shortfall, .validGrace, .valid], (f.judgeRides m t).stage = .judged v := by
  unfold Flight.judgeRides
  simp only
  split
  · exact ⟨⟨rfl, rfl, rfl, rfl⟩, _, by simp, rfl⟩
  · obtain ⟨hc, -, v, hv, hs⟩ := Flight.judgeCoverage_spec
      { f with rideDue := t.needsRide m.header.train f.snap.serviceDay } m t
    exact ⟨hc, v, List.mem_cons_of_mem _ hv, hs⟩

/-- Stages 6 to 8 give a verdict (R25 to R28). -/
theorem Flight.judgeFresh_spec (f : Flight) (m : Memory) (t : Ticket) :
    f.sameCard (f.judgeFresh m t) ∧
      ∃ v ∈ [Verdict.notYetValid, .expired, .exhausted, .noCover, .shortfall, .validGrace, .valid],
        (f.judgeFresh m t).stage = .judged v := by
  unfold Flight.judgeFresh
  split
  · exact ⟨⟨rfl, rfl, rfl, rfl⟩, _, by simp, rfl⟩
  · exact ⟨⟨rfl, rfl, rfl, rfl⟩, _, by simp, rfl⟩
  · obtain ⟨hc, v, hv, hs⟩ := Flight.judgeRides_spec { f with timeUnchecked := true } m t
    exact ⟨hc, v, by simp_all, hs⟩
  · obtain ⟨hc, v, hv, hs⟩ := Flight.judgeRides_spec { f with grace := ‹Bool› } m t
    exact ⟨hc, v, by simp_all, hs⟩

/-! ### The write-back image (R95) -/

@[simp] theorem be16_length (n : Nat) : (be16 n).length = 2 := rfl
@[simp] theorem le16_length (n : Nat) : (le16 n).length = 2 := rfl
@[simp] theorem checkWordBytes_length (w : Word) : (checkWordBytes w).length = 2 := rfl

/-- A composed image is as long as the image it is made from. -/
theorem composeImage_length {img : List Byte} (h : img.length = 32) (rides train day minute sequence : Nat) :
    (composeImage img rides train day minute sequence).length = 32 := by
  simp [composeImage, h]

/-- A sealed image keeps its length and its first 30 bytes. -/
theorem sealImage_length {img : List Byte} (h : img.length = 32) (w : Word) : (sealImage img w).length = 32 := by
  simp [sealImage, h]

theorem sealImage_take {img : List Byte} (h : img.length = 32) (w : Word) :
    (sealImage img w).take 30 = img.take 30 := by
  simp [sealImage, h]

/-- Composing an image sets the flight and asks for its check word (R95). -/
theorem State.compose_spec (s : State) (f : Flight) (v : Verdict) (img : List Byte) :
    s.compose f v img = { s with
      engine := { s.engine with flight := some { f with image := some img, stage := .composing v } }
      check := { s.check with engineJob := some (img.take 30) } } := rfl

/-- Stage 5 and what follows it touch the flight, the presented counts and the check unit's slot for the image, and
nothing else (R23 to R30). -/
theorem State.afterDenyMiss_spec (s : State) (f : Flight) :
    ∃ g, g.cell = f.cell ∧ g.snap = f.snap ∧
      s.afterDenyMiss f = { s with
        engine := { s.engine with flight := some g }
        rounds := if (roundEntry s.rounds (Ticket.ofImage (s.cellBody f.cell)).mediaId).isSome
          then raisePresented s.rounds (Ticket.ofImage (s.cellBody f.cell)).mediaId else s.rounds
        check := { s.check with engineJob := (s.afterDenyMiss f).check.engineJob } } := by
  unfold State.afterDenyMiss
  simp only
  split
  · rename_i e he
    simp only [he, Option.isSome_some, if_true]
    split
    · refine ⟨_, ?_, ?_, rfl⟩ <;> rfl
    · unfold State.repeatFound
      simp only
      split
      · refine ⟨_, ?_, ?_, rfl⟩ <;> rfl
      · rw [State.compose_spec]
        refine ⟨_, ?_, ?_, rfl⟩ <;> rfl
  · rename_i he
    obtain ⟨⟨hc, hs, -, -⟩, v, -, hv⟩ := f.judgeFresh_spec s.mem (Ticket.ofImage (s.cellBody f.cell))
    simp only [he, Option.isSome_none, Bool.false_eq_true, if_false]
    unfold State.prepare
    split
    · split
      · simp only
        rw [State.compose_spec]
        refine ⟨_, ?_, ?_, rfl⟩ <;> assumption
      · exact ⟨_, hc, hs, rfl⟩
    · exact ⟨_, hc, hs, rfl⟩

/-- A lookup's result touches no more: a hit is REVOKED at once (R22). -/
theorem State.afterDenyLookup_spec (s : State) (f : Flight) (hit : Option DenyEntry) :
    ∃ g, g.cell = f.cell ∧ g.snap = f.snap ∧
      s.afterDenyLookup f hit = { s with
        engine := { s.engine with flight := some g }
        rounds := (s.afterDenyLookup f hit).rounds
        check := { s.check with engineJob := (s.afterDenyLookup f hit).check.engineJob } } := by
  cases hit with
  | some e => refine ⟨_, ?_, ?_, rfl⟩ <;> rfl
  | none =>
    obtain ⟨g, hc, hs, h⟩ := s.afterDenyMiss_spec f
    refine ⟨g, hc, hs, ?_⟩
    simp only [State.afterDenyLookup]
    rw [h]

/-- A result of the check unit touches the flight and the deny list unit's lookup (R163). -/
theorem State.engineResult_spec (s : State) (result : Word) :
    s.engineResult result = { s with
      engine := { s.engine with flight := (s.engineResult result).engine.flight }
      deny := { s.deny with engineLookup := (s.engineResult result).deny.engineLookup } } := by
  unfold State.engineResult
  split
  · rfl
  · split
    · obtain ⟨g, -, -, -, -, h⟩ := s.afterImageCheck_spec ‹Flight› result
      rw [h]
    · rfl
    · rfl
    · rfl

end Sys2Proof.Machine
end

