-- ==== Sys2Proof/Laws/Memory.lean ====
section
/-! SUPPORT. Exchange memory: what a read sees after a write, and that every memory operation keeps the canonical
form. -/

namespace Sys2Proof.Machine

/-! ### The canonical form -/

theorem Memory.wf_nil : Memory.wf [] = true := rfl

theorem Memory.wf_cons {k : Nat} {c : Byte} {m : Memory} :
    Memory.wf ((k, c) :: m) = true ↔
      k < Config.memoryEnd ∧ c ≠ 0#8 ∧ (∀ e ∈ m, k < e.1) ∧ Memory.wf m = true := by
  simp only [Memory.wf, Memory.above, Bool.and_eq_true, decide_eq_true_eq, bne_iff_ne, ne_eq, List.all_eq_true]
  tauto

/-- An address below every listed one reads 0. -/
theorem Memory.read_of_above {m : Memory} {a : Nat} (h : ∀ e ∈ m, a < e.1) : m.read a = 0#8 := by
  induction m with
  | nil => rfl
  | cons e m ih =>
    obtain ⟨k, c⟩ := e
    have hk : a < k := h _ (List.mem_cons_self ..)
    rw [Memory.read, if_neg (by omega)]
    exact ih fun e he => h e (List.mem_cons_of_mem _ he)

/-- A write changes no other address. -/
@[simp] theorem Memory.read_write_of_ne (m : Memory) {a x : Nat} (b : Byte) (h : x ≠ a) :
    (m.write a b).read x = m.read x := by
  induction m with
  | nil => simp only [Memory.write]; split <;> simp [Memory.read, h.symm]
  | cons e m ih =>
    obtain ⟨k, c⟩ := e
    simp only [Memory.write]
    split
    · split <;> simp [Memory.read, h.symm]
    · split
      · subst_vars
        split <;> simp [Memory.read, h.symm]
      · simp [Memory.read, ih]

/-- A read after a write to the same address gives the byte written. -/
@[simp] theorem Memory.read_write_same {m : Memory} (hm : m.wf = true) (a : Nat) (b : Byte) :
    (m.write a b).read a = b := by
  induction m with
  | nil => simp only [Memory.write]; split <;> simp_all [Memory.read]
  | cons e m ih =>
    obtain ⟨k, c⟩ := e
    obtain ⟨-, -, habove, hwf⟩ := Memory.wf_cons.1 hm
    simp only [Memory.write]
    split
    · split
      · subst_vars
        refine Memory.read_of_above fun e he => ?_
        rcases List.mem_cons.1 he with rfl | he
        · assumption
        · exact lt_trans ‹_› (habove e he)
      · simp [Memory.read]
    · split
      · subst_vars
        split
        · subst_vars; exact Memory.read_of_above habove
        · simp [Memory.read]
      · rw [Memory.read, if_neg (by omega), ih hwf]

/-- The addresses a write lists are the address written and those listed before. -/
theorem Memory.mem_write {m : Memory} {a : Nat} {b : Byte} {e : Host.Cell} (h : e ∈ m.write a b) :
    e.1 = a ∨ e ∈ m := by
  induction m with
  | nil => simp only [Memory.write] at h; split at h <;> simp_all
  | cons x m ih =>
    obtain ⟨k, c⟩ := x
    simp only [Memory.write] at h
    split at h
    · split at h
      · exact .inr h
      · rcases List.mem_cons.1 h with rfl | h
        · exact .inl rfl
        · exact .inr h
    · split at h
      · split at h
        · exact .inr (List.mem_cons_of_mem _ h)
        · rcases List.mem_cons.1 h with rfl | h
          · exact .inl rfl
          · exact .inr (List.mem_cons_of_mem _ h)
      · rcases List.mem_cons.1 h with rfl | h
        · exact .inr (List.mem_cons_self ..)
        · exact (ih h).imp id (List.mem_cons_of_mem _)

/-- A write inside exchange memory keeps the canonical form. -/
theorem Memory.wf_write {m : Memory} {a : Nat} (b : Byte) (hm : m.wf = true) (ha : a < Config.memoryEnd) :
    (m.write a b).wf = true := by
  induction m with
  | nil =>
    simp only [Memory.write]
    split
    · rfl
    · exact Memory.wf_cons.2 ⟨ha, ‹_›, by simp, rfl⟩
  | cons e m ih =>
    obtain ⟨k, c⟩ := e
    obtain ⟨hk, hc, habove, hwf⟩ := Memory.wf_cons.1 hm
    simp only [Memory.write]
    split
    · split
      · exact hm
      · refine Memory.wf_cons.2 ⟨ha, ‹_›, fun e he => ?_, hm⟩
        rcases List.mem_cons.1 he with rfl | he
        · assumption
        · exact lt_trans ‹_› (habove e he)
    · split
      · subst_vars
        split
        · exact hwf
        · exact Memory.wf_cons.2 ⟨ha, ‹_›, habove, hwf⟩
      · refine Memory.wf_cons.2 ⟨hk, hc, fun e he => ?_, ih hwf⟩
        rcases Memory.mem_write he with h | h
        · omega
        · exact habove e h

/-! ### Runs of bytes -/

/-- Writing a run inside exchange memory keeps the canonical form. -/
theorem Memory.wf_writeList {m : Memory} {a : Nat} (bs : List Byte) (hm : m.wf = true)
    (ha : a + bs.length ≤ Config.memoryEnd) : (m.writeList a bs).wf = true := by
  induction bs generalizing m a with
  | nil => exact hm
  | cons b bs ih =>
    simp only [List.length_cons] at ha
    exact ih (Memory.wf_write b hm (by omega)) (by omega)

/-- Writing a run changes no address outside it. -/
theorem Memory.read_writeList_of_not_mem (m : Memory) {a x : Nat} (bs : List Byte) (h : x < a ∨ a + bs.length ≤ x) :
    (m.writeList a bs).read x = m.read x := by
  induction bs generalizing m a with
  | nil => rfl
  | cons b bs ih =>
    simp only [List.length_cons] at h
    rw [Memory.writeList, ih _ (by omega), Memory.read_write_of_ne _ _ (by omega)]

/-- A read inside a run written gives the run's byte. -/
theorem Memory.read_writeList {m : Memory} {a : Nat} {bs : List Byte} (hm : m.wf = true)
    (ha : a + bs.length ≤ Config.memoryEnd) {i : Nat} (hi : i < bs.length) :
    (m.writeList a bs).read (a + i) = bs.getD i 0#8 := by
  induction bs generalizing m a i with
  | nil => simp at hi
  | cons b bs ih =>
    simp only [List.length_cons] at ha hi
    have hw := Memory.wf_write b hm (show a < Config.memoryEnd by omega)
    cases i with
    | zero => rw [Memory.writeList, Memory.read_writeList_of_not_mem _ _ (by omega)]; simp [hm]
    | succ i =>
      rw [Memory.writeList, show a + (i + 1) = a + 1 + i by omega, ih hw (by omega) (by omega)]
      simp

@[simp] theorem Memory.readList_length (m : Memory) (a n : Nat) : (m.readList a n).length = n := by
  simp [Memory.readList]

theorem Memory.readList_getD (m : Memory) {a n i : Nat} (hi : i < n) :
    (m.readList a n).getD i 0#8 = m.read (a + i) := by
  simp [Memory.readList, hi]

/-- Two memories that agree on a run read the same run. -/
theorem Memory.readList_congr {m m' : Memory} {a n : Nat} (h : ∀ x, a ≤ x → x < a + n → m'.read x = m.read x) :
    m'.readList a n = m.readList a n := by
  refine List.map_congr_left fun i hi => h _ (by omega) ?_
  have := List.mem_range.1 hi
  omega

theorem Memory.readList_add (m : Memory) (a n k : Nat) :
    m.readList a (n + k) = m.readList a n ++ m.readList (a + n) k := by
  simp only [Memory.readList, List.range_add, List.map_append, List.map_map]
  congr 1
  exact List.map_congr_left fun i _ => by simp [Nat.add_assoc]

/-- A run written reads back. -/
theorem Memory.readList_writeList {m : Memory} {a : Nat} {bs : List Byte} (hm : m.wf = true)
    (ha : a + bs.length ≤ Config.memoryEnd) : (m.writeList a bs).readList a bs.length = bs := by
  refine List.ext_getElem (by simp) fun i h₁ h₂ => ?_
  have h := Memory.read_writeList hm ha h₂
  rw [List.getD_eq_getElem _ _ h₂] at h
  simpa [Memory.readList] using h

@[simp] theorem padTo_length (n : Nat) (bs : List Byte) : (padTo n bs).length = n := by
  simp [padTo]

/-- A padded run holds the run's bytes, then zeros. -/
theorem padTo_getD {n i : Nat} (bs : List Byte) (hi : i < n) : (padTo n bs).getD i 0#8 = bs.getD i 0#8 := by
  simp only [padTo, List.getD_eq_getElem?_getD, List.getElem?_take, hi, if_true, List.getElem?_append,
    List.getElem?_replicate]
  by_cases h : i < bs.length
  · simp [h]
  · rw [if_neg h, List.getElem?_eq_none (by omega)]
    split <;> rfl

/-! ### The state's operations -/

/-- Reset memory is canonical. -/
theorem State.reset_memoryCanonical : State.reset.memoryCanonical := rfl

theorem cellBase_lt (n : Fin 32) : cellBase n + Config.cellSize ≤ Config.mirrorBase := by
  have := n.isLt
  simp only [cellBase, Config.cellSize, Config.mirrorBase]
  omega

/-- A store inside exchange memory keeps the canonical form. -/
theorem State.store_memoryCanonical {s : State} (h : s.memoryCanonical) {a : Nat} {bs : List Byte}
    (ha : a + bs.length ≤ Config.memoryEnd) : (s.store a bs).memoryCanonical :=
  Memory.wf_writeList bs h ha

theorem State.store_sameBytesBut (s : State) (a : Nat) (bs : List Byte) :
    s.sameBytesBut (s.store a bs) (fun x => a ≤ x ∧ x < a + bs.length) := by
  intro x hx
  rw [State.store_mem]
  refine Memory.read_writeList_of_not_mem _ _ ?_
  by_contra hc
  exact hx ⟨by omega, by omega⟩

@[simp] theorem captureBytes_length (r : Option CaptureRecord) : (captureBytes r).length = 16 := by
  cases r <;> rfl

@[simp] theorem State.mirrorService_length (s : State) : s.mirrorService.length = 4 := by
  unfold State.mirrorService; split <;> rfl

/-- The mirror's image has its 64 bytes. -/
@[simp] theorem State.mirrorImage_length (s : State) : s.mirrorImage.length = 64 := by
  simp [State.mirrorImage, le16]

/-- A rewrite of the mirror keeps the canonical form. -/
theorem State.rewriteMirror_memoryCanonical {s : State} (h : s.memoryCanonical) : s.rewriteMirror.memoryCanonical :=
  State.store_memoryCanonical h (by simp [Config.mirrorBase, Config.memoryEnd])

/-- A rewrite of the mirror changes the mirror alone. -/
theorem State.rewriteMirror_sameBytesBut (s : State) : s.sameBytesBut s.rewriteMirror inMirror := by
  intro x hx
  refine s.store_sameBytesBut _ _ x fun ⟨h₁, h₂⟩ => hx ⟨h₁, ?_⟩
  simp [Config.mirrorBase] at h₂ ⊢
  omega

/-- After a rewrite the mirror's bytes are those of the image. -/
theorem State.rewriteMirror_readList {s : State} (h : s.memoryCanonical) :
    s.rewriteMirror.mem.readList Config.mirrorBase Config.mirrorSize = s.mirrorImage := by
  have := Memory.readList_writeList (a := Config.mirrorBase) (bs := s.mirrorImage) h (by simp [Config.mirrorBase, Config.memoryEnd])
  simpa [State.rewriteMirror] using this

/-- A cell's state byte written keeps the canonical form. -/
theorem State.setCellState_memoryCanonical {s : State} (h : s.memoryCanonical) (n : Fin 32) (c : CellState) :
    (s.setCellState n c).memoryCanonical := by
  refine Memory.wf_write _ h ?_
  have := cellBase_lt n
  simp only [Config.mirrorBase, Config.memoryEnd, Config.cellSize] at this ⊢
  omega

/-- Setting a cell's state changes its state byte alone. -/
theorem State.setCellState_sameBytesBut (s : State) (n : Fin 32) (c : CellState) :
    s.sameBytesBut (s.setCellState n c) (fun x => x = cellBase n) := fun _ hx =>
  Memory.read_write_of_ne _ _ hx

@[simp] theorem CellState.ofByte_code (c : CellState) : CellState.ofByte c.code = c := by
  cases c <;> rfl

/-- A cell's state once set is the state read. -/
theorem State.cellState_setCellState {s : State} (h : s.memoryCanonical) (n : Fin 32) (c : CellState) :
    (s.setCellState n c).cellState n = c := by
  simp only [State.cellState, State.setCellState, Memory.read_write_same h, CellState.ofByte_code]

/-- A take keeps the canonical form, and makes its cell TAKEN with no other byte changed. -/
theorem State.take_spec {s : State} (h : s.memoryCanonical) (q : QueueId) (n : Fin 32) :
    (s.take q n).memoryCanonical ∧ (s.take q n).cellState n = .taken ∧
      s.sameBytesBut (s.take q n) (fun x => x = cellBase n) :=
  ⟨State.setCellState_memoryCanonical (s := { s with intake := _ }) h n _,
    State.cellState_setCellState (s := { s with intake := _ }) h n _,
    fun _ hx => Memory.read_write_of_ne _ _ hx⟩

theorem cellBase_le (n : Fin 32) : cellBase n ≤ 1984 := by
  have := n.isLt
  simp only [cellBase, Config.cellSize]
  omega

/-- Storing a cell's answer keeps the canonical form. -/
theorem State.store_answer_memoryCanonical {s : State} (h : s.memoryCanonical) (n : Fin 32) (answer : List Byte) :
    (s.store (cellBase n + Config.answerOffset) (padTo Config.answerSize answer)).memoryCanonical := by
  have := cellBase_le n
  refine State.store_memoryCanonical h ?_
  simp only [padTo_length, Config.answerOffset, Config.answerSize, Config.memoryEnd]
  omega

/-- Storing a cell's body keeps the canonical form. -/
theorem State.store_body_memoryCanonical {s : State} (h : s.memoryCanonical) (n : Fin 32) (bs : List Byte) :
    (s.store (cellBase n + Config.bodyOffset) (bs.take Config.bodySize)).memoryCanonical := by
  have := cellBase_le n
  refine State.store_memoryCanonical h ?_
  simp only [List.length_take, Config.bodyOffset, Config.bodySize, Config.memoryEnd]
  omega

/-- A posting keeps the canonical form. -/
theorem State.post_memoryCanonical {s : State} (h : s.memoryCanonical) (n : Fin 32) (answer : List Byte)
    (body : Option (List Byte)) : (s.post n answer body).memoryCanonical := by
  refine State.setCellState_memoryCanonical ?_ n _
  cases body with
  | none => exact State.store_answer_memoryCanonical h n answer
  | some bs => exact State.store_body_memoryCanonical (State.store_answer_memoryCanonical h n answer) n bs

/-- A posting makes its cell DONE with the answer given, 0 beyond its end (R180). -/
theorem State.post_answers {s : State} (h : s.memoryCanonical) (n : Fin 32) (answer : List Byte)
    (body : Option (List Byte)) : (s.post n answer body).answers n answer := by
  have hb := cellBase_le n
  have h₁ := State.store_answer_memoryCanonical h n answer
  have key : ∀ i, i < Config.answerSize →
      (s.store (cellBase n + Config.answerOffset) (padTo Config.answerSize answer)).mem.read
        (cellBase n + Config.answerOffset + i) = answer.getD i 0#8 := by
    intro i hi
    rw [State.store_mem, Memory.read_writeList h _ (by simpa using hi), padTo_getD _ hi]
    simp only [padTo_length, Config.answerOffset, Config.answerSize, Config.memoryEnd]
    omega
  have hne (i : Nat) : cellBase n + Config.answerOffset + i ≠ cellBase n := by
    simp only [Config.answerOffset]
    omega
  cases body with
  | none =>
    refine ⟨State.cellState_setCellState h₁ n _, fun i hi => ?_⟩
    rw [State.cellByte, ← Nat.add_assoc]
    exact (State.setCellState_sameBytesBut _ n _ _ (hne i)).trans (key i hi)
  | some bs =>
    refine ⟨State.cellState_setCellState (State.store_body_memoryCanonical h₁ n bs) n _, fun i hi => ?_⟩
    rw [State.cellByte, ← Nat.add_assoc]
    refine (State.setCellState_sameBytesBut _ n _ _ (hne i)).trans ((State.store_sameBytesBut _ _ _ _ ?_).trans
      (key i hi))
    simp only [List.length_take, Config.answerOffset, Config.bodyOffset, Config.bodySize]
    omega

/-- A posting changes its cell's state byte and answer, and its body only where one is given. -/
theorem State.post_sameBytesBut (s : State) (n : Fin 32) (answer : List Byte) (body : Option (List Byte)) :
    s.sameBytesBut (s.post n answer body)
      (fun x => x = cellBase n ∨ inAnswer n x ∨ (body.isSome ∧ inBody n x)) := by
  intro x hx
  simp only [not_or, not_and] at hx
  obtain ⟨h₀, h₁, h₂⟩ := hx
  have key : (s.store (cellBase n + Config.answerOffset) (padTo Config.answerSize answer)).mem.read x =
      s.mem.read x := by
    refine s.store_sameBytesBut _ _ x fun ⟨ha, hb⟩ => h₁ ha ?_
    simpa [Config.answerOffset, Config.answerSize, Config.cellSize, Nat.add_assoc] using hb
  cases body with
  | none => exact (State.setCellState_sameBytesBut _ n _ x h₀).trans key
  | some bs =>
    refine (State.setCellState_sameBytesBut _ n _ x h₀).trans ((State.store_sameBytesBut _ _ _ x ?_).trans key)
    rintro ⟨ha, hb⟩
    refine h₂ (by simp) ha ?_
    simp only [List.length_take, Config.bodyOffset, Config.bodySize, Config.answerOffset] at hb ⊢
    omega

/-- A posted image of 32 bytes is the cell's body (R13). -/
theorem State.post_cellBody {s : State} (h : s.memoryCanonical) (n : Fin 32) (answer img : List Byte)
    (hi : img.length = 32) : (s.post n answer (some img)).cellBody n = img := by
  have hb := cellBase_le n
  have ht : img.take Config.bodySize = img := List.take_of_length_le (by simp [hi])
  have := Memory.readList_writeList (a := cellBase n + Config.bodyOffset) (bs := img)
    (State.store_answer_memoryCanonical h n answer) (by
      simp only [hi, Config.bodyOffset, Config.memoryEnd]
      omega)
  rw [hi] at this
  refine Eq.trans (Memory.readList_congr fun x hx _ => ?_) this
  simp only [State.post, ht]
  refine State.setCellState_sameBytesBut _ n _ x ?_
  simp only [Config.bodyOffset] at hx
  omega

end Sys2Proof.Machine
end

