-- ==== Sys2Proof/Laws/Notice.lean ====
section
/-! SUPPORT. The notice unit: what raising and clearing a flag does to each flag, what a change of one cell does to
the counts, and what the end of an event drives. -/

namespace Sys2Proof.Machine

/-! ### Flags -/

theorem EventFlag.number_lt (f : EventFlag) : f.number < 9 := by cases f <;> decide

theorem EventFlag.number_injective {f g : EventFlag} (h : f.number = g.number) : f = g := by
  cases f <;> cases g <;> first | rfl | exact absurd h (by decide)

theorem EventFlag.getLsbD_bit (f g : EventFlag) : f.bit.getLsbD g.number = decide (g = f) := by
  cases f <;> cases g <;> decide

/-- Raising a flag sets it and leaves the others (R187). -/
@[simp] theorem State.flag_raise (s : State) (f g : EventFlag) : (s.raise f).flag g = (s.flag g || decide (g = f)) := by
  simp [State.flag, State.raise, EventFlag.getLsbD_bit]

/-- Clearing a flag clears it and leaves the others. -/
@[simp] theorem State.flag_clearFlag (s : State) (f g : EventFlag) :
    (s.clearFlag f).flag g = (s.flag g && decide (g ≠ f)) := by
  simp only [State.flag, State.clearFlag, BitVec.getLsbD_and, BitVec.getLsbD_not, EventFlag.getLsbD_bit,
    EventFlag.number_lt, decide_true, Bool.true_and, ne_eq, decide_not]

theorem State.raise_sameFlagsBut (s : State) (f : EventFlag) : s.sameFlagsBut (s.raise f) [f] := by
  intro g hg
  simp_all

theorem State.clearFlag_sameFlagsBut (s : State) (f : EventFlag) : s.sameFlagsBut (s.clearFlag f) [f] := by
  intro g hg
  simp_all

/-- Raising a flag changes nothing of the notice unit but the flags. -/
theorem State.raise_notice (s : State) (f : EventFlag) :
    (s.raise f).notice = { s.notice with flags := s.notice.flags ||| f.bit } := rfl

theorem State.clearFlag_notice (s : State) (f : EventFlag) :
    (s.clearFlag f).notice = { s.notice with flags := s.notice.flags &&& ~~~ f.bit } := rfl

/-! ### The end of an event -/

/-- NOTE_N does not enter into the causes. -/
@[simp] theorem State.anyPending_driveNote (s : State) : s.driveNote.anyPending = s.anyPending := rfl

/-- After an event NOTE_N agrees with the causes (R194). -/
theorem State.driveNote_noteAgrees (s : State) : s.driveNote.noteAgrees := rfl

theorem State.driveNote_eq (s : State) : s.driveNote = s.onlyNote := rfl

/-- An event answers the state it leaves, NOTE_N driven and the work at a free unit begun. -/
theorem State.event_eq (s : State) : s.event = .next { s.onlyNote with check := s.check.choose, deny := s.deny.advance } :=
  rfl

/-- An event whose request may fall together with the next answers the state it leaves, NOTE_N driven. -/
theorem State.asking_eq (s : State) : s.asking = .next s.onlyNote := rfl

/-- An event that does not come about answers the state as it stands. -/
theorem State.noEvent_eq (s : State) : s.noEvent = .next s := rfl

/-- A driven NOTE_N that already agrees is the state itself. -/
theorem State.driveNote_of_noteAgrees {s : State} (h : s.noteAgrees) : s.driveNote = s := by
  obtain ⟨_, _, _, _, _, _, _, _, _, ⟨⟩, _, _⟩ := s
  simp only [State.noteAgrees] at h
  simp only [State.driveNote, ← h]

/-! ### Counts (R181) -/

/-- A list of cells of which only `n` changes its answer to a question loses and gains what `n` does. -/
theorem countP_change {l : List (Fin 32)} (hl : l.Nodup) {n : Fin 32} (hn : n ∈ l) {p q : Fin 32 → Bool}
    (h : ∀ m, m ≠ n → q m = p m) : l.countP q + (p n).toNat = l.countP p + (q n).toNat := by
  induction l with
  | nil => simp at hn
  | cons a l ih =>
    obtain ⟨ha, hl⟩ := List.nodup_cons.1 hl
    rw [List.countP_cons, List.countP_cons]
    by_cases hna : n = a
    · subst hna
      have : l.countP q = l.countP p := List.countP_congr fun m hm => by
        rw [h m (by rintro rfl; exact ha hm)]
      cases hp : p n <;> cases hq : q n <;> simp_all
    · have := ih hl (by simpa [hna] using hn)
      rw [h a (Ne.symm hna)]
      omega

/-- Setting a cell's state moves that cell alone between the counts. -/
theorem State.countCells_setCellState {s : State} (hm : s.memoryCanonical) (n : Fin 32) (new c : CellState)
    (p : Option RequestKind → Bool) :
    (s.setCellState n new).countCells c p + (decide (s.cellState n = c) && p (s.kindOf n)).toNat =
      s.countCells c p + (decide (new = c) && p (s.kindOf n)).toNat := by
  have hcell : ∀ m, m ≠ n → (s.setCellState n new).cellState m = s.cellState m := by
    intro m hmn
    refine congrArg CellState.ofByte (Memory.read_write_of_ne _ _ ?_)
    simp only [cellBase, Config.cellSize]
    have := Fin.val_ne_of_ne hmn
    omega
  have hkind : ∀ m, (s.setCellState n new).kindOf m = s.kindOf m := fun _ => rfl
  have hself : (s.setCellState n new).cellState n = new := State.cellState_setCellState hm n new
  have := countP_change (List.nodup_finRange 32) (List.mem_finRange n)
    (p := fun m => decide (s.cellState m = c) && p (s.kindOf m))
    (q := fun m => decide ((s.setCellState n new).cellState m = c) && p ((s.setCellState n new).kindOf m))
    (fun m hmn => by rw [hcell m hmn, hkind])
  simpa [State.countCells, hself, hkind] using this

end Sys2Proof.Machine
end

