-- ==== Sys2Proof/Laws/Journey.lean ====
section
/-! SUPPORT. The journey unit's shared operations: boundaries, the re-arm of the capture, the cascade of the clock. -/

namespace Sys2Proof.Machine

/-! ### Boundaries (R131) -/

/-- The re-arm empties the capture and clears FIRST_FAULT, and nothing else (R137). -/
theorem State.rearmCapture_spec (s : State) :
    s.rearmCapture = { s with
      journey := { s.journey with capture := none }
      notice := { s.notice with flags := s.notice.flags &&& ~~~ EventFlag.firstFault.bit } } := rfl

/-- What `k` boundaries do: the round rises by `k`, and at one or more the round list is emptied, the capture re-armed
and BOUNDARY set (R131). -/
theorem State.boundaries_spec (k : Nat) (s : State) :
    State.boundaries k s = { s with
      journey := { s.journey with
        round := s.journey.round + k, capture := if k = 0 then s.journey.capture else none }
      rounds := if k = 0 then s.rounds else []
      notice := { s.notice with
        flags := if k = 0 then s.notice.flags
          else (s.notice.flags &&& ~~~ EventFlag.firstFault.bit) ||| EventFlag.boundary.bit } } := by
  induction k generalizing s with
  | zero => rfl
  | succ k ih =>
    rw [State.boundaries, ih]
    have hbits : ∀ w : BitVec 9, ((((w &&& ~~~ EventFlag.firstFault.bit) ||| EventFlag.boundary.bit) &&&
        ~~~ EventFlag.firstFault.bit) ||| EventFlag.boundary.bit) =
        ((w &&& ~~~ EventFlag.firstFault.bit) ||| EventFlag.boundary.bit) := by decide
    by_cases hk : k = 0
    · subst hk
      simp [State.boundary, State.rearmCapture, State.raise, State.clearFlag]
    · simp [State.boundary, State.rearmCapture, State.raise, State.clearFlag, hk, hbits]
      omega

@[simp] theorem State.boundaries_mem (k : Nat) (s : State) : (State.boundaries k s).mem = s.mem := by
  rw [State.boundaries_spec]
@[simp] theorem State.boundaries_table (k : Nat) (s : State) : (State.boundaries k s).table = s.table := by
  rw [State.boundaries_spec]
@[simp] theorem State.boundaries_clock (k : Nat) (s : State) : (State.boundaries k s).clock = s.clock := by
  rw [State.boundaries_spec]
@[simp] theorem State.boundaries_engine (k : Nat) (s : State) : (State.boundaries k s).engine = s.engine := by
  rw [State.boundaries_spec]
@[simp] theorem State.boundaries_intake (k : Nat) (s : State) : (State.boundaries k s).intake = s.intake := by
  rw [State.boundaries_spec]
@[simp] theorem State.boundaries_deny (k : Nat) (s : State) : (State.boundaries k s).deny = s.deny := by
  rw [State.boundaries_spec]
@[simp] theorem State.boundaries_check (k : Nat) (s : State) : (State.boundaries k s).check = s.check := by
  rw [State.boundaries_spec]

/-! ### The clock (R66, R67) -/

/-- A DAY_CHANGE sets its flag and reaches the deny list unit, and nothing else (R67, R82). -/
theorem State.dayChanged_spec (s : State) (day : Nat) :
    s.dayChanged day = { s.raise .dayChange with deny := s.deny.dayChange day } := rfl

/-- The cascade past midnight: the minute is 0, and below 65535 the day rises with a DAY_CHANGE (R67). -/
theorem State.advanceDay_spec (s : State) :
    s.advanceDay = if s.clock.day < 65535 then
      { s.raise .dayChange with
        clock := { s.clock with minute := 0, day := s.clock.day + 1 }
        deny := s.deny.dayChange (s.clock.day + 1) }
      else { s with clock := { s.clock with minute := 0 } } := rfl

/-- The clock after one second (R66, R67). -/
theorem State.advanceSecond_clock (s : State) :
    s.advanceSecond.clock =
      if s.clock.second < 59 then { s.clock with second := s.clock.second + 1 }
      else if s.clock.minute < 1439 then { s.clock with second := 0, minute := s.clock.minute + 1 }
      else if s.clock.day < 65535 then { s.clock with second := 0, minute := 0, day := s.clock.day + 1 }
      else { s.clock with second := 0, minute := 0 } := by
  simp only [State.advanceSecond, State.rewriteMirror_clock]
  split
  · rfl
  · simp only [State.advanceMinute]
    split
    · rfl
    · rw [State.advanceDay_spec]
      simp only [apply_ite State.clock]

/-- One second reaches the deny list unit only as a DAY_CHANGE (R66, R67). -/
theorem State.advanceSecond_deny (s : State) :
    s.advanceSecond.deny = if 59 ≤ s.clock.second ∧ 1439 ≤ s.clock.minute ∧ s.clock.day < 65535
      then s.deny.dayChange (s.clock.day + 1) else s.deny := by
  simp only [State.advanceSecond, State.rewriteMirror_deny]
  split
  · rw [if_neg (by omega)]
  · simp only [State.advanceMinute]
    split
    · rw [if_neg (by omega)]
    · rw [State.advanceDay_spec]
      simp only [apply_ite State.deny]
      split <;> split <;> first | rfl | omega

end Sys2Proof.Machine
end

