-- ==== Sys2Proof/Tests/Slice0.lean ====
section
/-! SUPPORT. Tests of the model on the figures of the spec's worked examples, and for each statement that has
hypotheses a witness: a state and operands that meet all of them together. -/

namespace Sys2Proof.Tests

open Sys2Proof.Machine

-- One proof after the other: each waits on the kernel, and each thread of its own would take a stack.
set_option Elab.async false

/-! ### The states of the worked examples -/

abbrev bothLanes : Lanes := { low := true, high := true }
abbrev lowLane : Lanes := { low := true, high := false }
abbrev highLane : Lanes := { low := false, high := true }
abbrev noLane : Lanes := { low := false, high := false }

/-- The state a command answers. -/
def run (c : Instr) (s : State) : State :=
  match exec c s with
  | .next t => t
  | .fault _ => s
  | .refused _ => s

/-- Bytes from an address upward, as memory lists them. -/
def bytesAt : Nat → List Nat → Memory
  | _, [] => []
  | a, b :: bs => if b = 0 then bytesAt (a + 1) bs else (a, byteOf b) :: bytesAt (a + 1) bs

/-- The route zones of Table 3-5. -/
def exampleZones : List Nat :=
  [40, 40, 40, 41, 41, 42, 42, 43, 44, 44, 43, 45, 48, 49, 49, 50, 72, 75, 75, 76, 77, 78, 79, 79]

/-- The service header of the worked service (section 8.7): train 2214, UP, origin 1, N 24, d 180, G 15, r 5, penalty
6,000, cap 9,000, issuer count 4. -/
def exampleHeader : List Nat :=
  [0xA6, 0x08, 0, 1, 24, 180, 0, 15, 5, 0x70, 0x17, 0x28, 0x23, 4, 0x10, 0x9F]

/-- The tables of the worked service: Tables 3-2 to 3-5, stop codes from 100, stop 8 a boundary, each table with its
check word. -/
def exampleTables : Memory :=
  bytesAt 0x1000 exampleHeader ++
    bytesAt 0x1010 [12, 5, 6, 0, 30, 9, 9, 0, 7, 5, 0xFF, 0, 41, 0xFF, 0xFF, 0] ++ bytesAt 0x1050 [0xEC, 0x29] ++
    bytesAt 0x1052 [100, 50, 75, 60, 25, 0, 100, 100, 0xA7, 0xEE] ++
    bytesAt 0x105C ([180, 340, 490, 630, 760, 880, 990, 1090, 1180, 1260, 1330, 1390, 1440, 1480, 1510, 1530].flatMap
      fun f => [f % 256, f / 256]) ++ bytesAt 0x107C [0x4D, 0x8C] ++
    bytesAt 0x107E (exampleZones.zipIdx.flatMap fun z => [100 + z.2, 0, z.1, if z.2 = 8 then 1 else 0]) ++
    bytesAt 0x113E [0, 0x02]

/-- The ten-ride ticket of Table 1-4 with its check word. -/
def card : List Byte :=
  [2, 12, 1, 2, 0x00, 0xA4, 0x1C, 0x00, 0x93, 0xE2, 0xF7, 0x00, 0x06, 0x4E, 0x20, 0x02, 0x58, 1, 0, 30, 7, 0, 0, 0, 0,
    0, 0, 0, 0, 0, 0xEE, 0x91].map byteOf

/-- The clock at day 20010, minute 480. -/
def exampleClock : Clock :=
  { day := 20010, minute := 480, second := 0, subSecond := 0, valid := true, timebase := .running, lossTimer := true }

/-- The part of those tables that the worked inspection reads: the header, issuer 12, class 2, four fares, stops 3 to
9. -/
def rideTables : Memory :=
  bytesAt 0x1000 exampleHeader ++ bytesAt 0x1010 [12, 5, 6] ++ bytesAt 0x1054 [75] ++
    bytesAt 0x105C ([180, 340, 490, 630].flatMap fun f => [f % 256, f / 256]) ++
    bytesAt 0x108A (((exampleZones.zipIdx.drop 3).take 7).flatMap fun z =>
      [100 + z.2, 0, z.1, if z.2 = 8 then 1 else 0])

/-- No service, the clock set. -/
def closed : State :=
  State.rewriteMirror { State.reset with mem := bytesAt 0x1000 exampleHeader, clock := exampleClock }

/-- No service, all the tables of the worked service loaded. -/
def loaded : State :=
  { closed with mem := closed.mem ++ exampleTables.drop 14 }

/-- The worked service at AT_STOP(7) in round 2, the counter at 11. -/
def inService : State :=
  State.rewriteMirror { State.reset with
    mem := rideTables
    clock := exampleClock
    engine := { flight := none, counter := 11 }
    journey := { kind := .atStop, stop := 7, round := 2, serviceDay := 20010, capture := none, hold := none }
    table := { service := .inService, held := none } }

/-- A request filled into a cell from its kind parameters on, and written READY. -/
def request (s : State) (n : Fin 32) (kind : Nat) (bytes : List Byte) : State :=
  run (.arrival n (some (byteOf kind))) (s.store (cellBase n + 4) bytes)

/-- The ticket in cell 5: presentation FIRST, boarding 3, alighting 9, no class override (section 2.7). -/
def presented : State :=
  request inService 5 1 ([0#8, 3#8, 9#8, 0xFF#8] ++ card)

/-- Cell 5 taken, its image check in hand. -/
def taken : State := run .inspect presented

/-- Cell 5 at its deny stage. -/
def checked : State := run .checkJobEnd taken

/-- Cell 5 judged SHORTFALL, its write-back image being composed. -/
def composing : State := run (.denyLookup .verdictEngine) checked

/-- Cell 5 at its completion. -/
def judged : State := run .checkJobEnd composing


/-! The journey of section 7.11: N 10, direction UP, stops 3, 5 and 9 boundaries. -/

/-- Its tables, the header and the route. -/
def journeyTables : Memory :=
  bytesAt 0x1000 [0xA6, 0x08, 0, 1, 10, 180, 0, 15, 5, 0x70, 0x17, 0x28, 0x23, 4] ++
    bytesAt 0x107E ((List.range 10).flatMap fun j => [100 + j, 0, 40, if j = 3 ∨ j = 5 ∨ j = 9 then 1 else 0])

/-- The train of section 7.11 at a position, with the capture it holds. -/
def onRoute (kind : PosKind) (stop round : Nat) (capture : Option CaptureRecord) : State :=
  State.rewriteMirror { State.reset with
    mem := journeyTables
    clock := exampleClock
    journey := { kind := kind, stop := stop, round := round, serviceDay := 20010, capture := capture, hold := none }
    table := { service := .inService, held := none }
    notice := { State.reset.notice with flags := if capture.isSome then 0x100#9 else 0#9 } }

/-- The fault of cell 12 at stop 1 (section 7.11). -/
def heldFault : CaptureRecord :=
  { round := 1, stop := 1, kind := .atStop, day := 20010, minute := 480, cell := 12, tag := (0x34#8, 0x12#8),
    verdict := .expired, amount := 6475 }

/-- A JOURNEY request in cell 30. -/
def journeyRequest (s : State) (event stop kind : Byte) : State :=
  request s 30 2 [0#8, 0#8, 0#8, 0#8, event, stop, kind]

/-- A CLOCK-SET request in cell 2. -/
def clockRequest (s : State) (day minute second : Nat) : State :=
  request s 2 3 ([0#8, 0#8, 0#8, 0#8] ++ le16 day ++ le16 minute ++ [byteOf second])

/-! The batch and the list of section 6.7. -/

/-- The deny list of Table 6-1. -/
def fiveEntries : List DenyEntry :=
  [⟨0xA100, 1, 20009⟩, ⟨0xA200, 2, 0xFFFF⟩, ⟨0xA300, 3, 20010⟩, ⟨0xA400, 4, 20012⟩, ⟨0xA500, 1, 20008⟩]

/-- The batch of Table 6-2 with its check word. -/
def batchBytes : List Nat :=
  [4, 0] ++ [1, 2, 0xFF, 0xFF, 0, 0, 0, 0, 0, 0xA6, 0, 0] ++ [2, 0, 0, 0, 0, 0, 0, 0, 0, 0xA3, 0, 0] ++
    [1, 4, 0x34, 0x4E, 0, 0, 0, 0, 0, 0xA2, 0, 0] ++ [2, 0, 0, 0, 0, 0, 0, 0, 0, 0xA7, 0, 0] ++ [0xC0, 0x0F]

/-- The worked service with the list and the batch of section 6.7, and the DENY-BATCH in cell 11. -/
def batchReady : State :=
  request { inService with mem := inService.mem ++ bytesAt 0x3000 batchBytes
                           deny := { inService.deny with list := fiveEntries } }
    11 6 [0#8, 0#8, 0#8, 0#8, 0x00#8, 0x30#8]

/-- Cell 11 taken and its batch checked: an edit is in service, `i` records applied. -/
def editing (i : Nat) (e : Edit) : State :=
  let s := run .denyBatch batchReady
  { s with
    table := { s.table with held := some (11, .denyBatch 0x3000 4 i true) }
    check := State.reset.check
    deny := { s.deny with edit := some e, serving := some .edit } }

/-- The list of section 6.7 under the sweep against day 20011 (Table 6-4). -/
def sweeping (position : Nat) : State :=
  State.rewriteMirror { inService with deny :=
    { inService.deny with list := fiveEntries, sweep := some { day := 20011, position := position }
                          serving := some .sweepStep } }

/-- A SERVICE-OPEN taken in cell 20 whose every check has passed, at day 20010, minute 152 (section 8.7). -/
def openPassed : State :=
  let s := run .serviceOpen (request { closed with clock := { exampleClock with minute := 152 } } 20 4 [])
  { s with table := { s.table with held := some (20, .serviceOpen 1 2 true) }, check := State.reset.check }

/-! ### Power-on, reset and the registers -/

/-- R184, Table 12-15. -/
theorem test_powerOn_registers :
    (run .powerOn presented).engControl = 0x0004#16 ∧ (run .powerOn presented).eventEnable = 0x01FF#16 ∧
      (run .powerOn presented).cellState 5 = .empty ∧ (run .powerOn presented).notice.noteN = true := by decide +kernel

/-- Section 10.8, event 13: the batch in cell 11 had applied 37 records when the reset came. -/
theorem test_engineReset_answers_batch :
    let s := editing 37 .clear
    (run (.engineReset 0x0005#16 bothLanes) s).answers 11 [0x42#8, 0#8, 37#8, 0#8, 0xFF#8, 0xFF#8, 5#8, 0#8] ∧
      (run (.engineReset 0x0005#16 bothLanes) s).table.service = .noService := by
  refine ⟨⟨?_, ?_⟩, ?_⟩ <;> decide +kernel

/-- Section 10.8, event 13: the queue is rebuilt by cell index. -/
theorem test_engineReset_rebuilds_queue :
    (run (.engineReset 0x0005#16 lowLane) (request (request closed 9 1 []) 2 1 [])).intake.inspection = [2, 9] := by
  decide +kernel

/-- R196: the mode becomes FIRST. -/
theorem test_answerMode_first : (run (.answerMode 0x0002#16 lowLane) closed).engControl = 0x0002#16 := by
  decide +kernel

/-- R196: the value 3 leaves the mode EACH. -/
theorem test_answerMode_three_keeps : (run (.answerMode 0x0006#16 lowLane) closed).engControl = 0x0004#16 := by
  decide +kernel

/-- R192: the field 7 is the watermark 8. -/
theorem test_watermark_eight : (run (.watermark 0x0074#16 lowLane) closed).notice.mark = 8 := by decide +kernel

/-- Section 11.4: with JOURNEY_FIRST 1, JOURNEY ranks above ANSWER. -/
theorem test_journeyFirst_ranks :
    (run (.journeyFirst 0x0082#16 lowLane)
      { onRoute .atStop 7 2 none with
        notice := { State.reset.notice with flags := 1#9, mode := .first, latch := some 14 } }).noticeWord =
      0x0703#16 := by decide +kernel

/-- Section 11.4, event 7: a REARM ends ANSWER and leaves JOURNEY pending at stop 7. -/
theorem test_rearm_arms_latch :
    (run (.rearm 0x001A#16 bothLanes)
      { onRoute .atStop 7 2 none with
        notice := { State.reset.notice with
          flags := 0x21#9, enable := 0x1DF#9, mode := .first, latch := some 14, otherDone := 2, noteN := false }
      }).noticeWord = 0x0703#16 := by decide +kernel

/-- Section 11.4, event 5: FIRST_FAULT cleared, GUARD_HIT left, the capture armed. -/
theorem test_eventFlagsClear_firstFault :
    let s := { onRoute .atStop 1 1 (some heldFault) with
      notice := { State.reset.notice with flags := 0x120#9 } }
    (run (.eventFlagsClear 0x0100#16 bothLanes) s).eventFlags = 0x0020#16 ∧
      (run (.eventFlagsClear 0x0100#16 bothLanes) s).journey.capture = none := by decide +kernel

/-- R188: a bit in a lane that is not selected clears nothing. -/
theorem test_eventFlagsClear_lane :
    (run (.eventFlagsClear 0x0120#16 lowLane)
      { closed with notice := { State.reset.notice with flags := 0x120#9 } }).eventFlags = 0x0100#16 := by
  decide +kernel

/-- R189: the high lane holds the enable bit of FIRST_FAULT alone. -/
theorem test_eventEnableWrite_high : (run (.eventEnableWrite 0xFE00#16 highLane) closed).eventEnable = 0x00FF#16 := by
  decide +kernel

/-- R199. -/
theorem test_registerWriteIgnored : run (.registerWriteIgnored .notice 0xFFFF#16 bothLanes) closed = closed := by
  decide +kernel

/-! ### The port and the cells -/

/-- R141: word 0 shows IN_SERVICE and AT_STOP, and the copy begins with the train number. -/
theorem test_mirrorWord0Read :
    (run (.mirrorWord0Read bothLanes) inService).readData = 0x0102#16 ∧
      (run (.mirrorWord0Read bothLanes) inService).hostRead 0x0802#16 = 0x08A6#16 := by decide +kernel

/-- R141: the held copy stands while the live mirror moves. -/
theorem test_mirrorHold_stands :
    let s := run .clk32Edge { run (.mirrorWord0Read lowLane) inService with
      clock := { exampleClock with subSecond := 32767 } }
    s.hostRead 0x080E#16 = 0x0100#16 ∧ s.liveWord 0x080E = 0x0101#16 := by decide +kernel

/-- R148: a write to the context region of an open service is discarded with GUARD_HIT. -/
theorem test_hostWrite_guarded :
    (run (.hostWrite 0x105C#16 0x1234#16 bothLanes) inService).flag .guardHit = true ∧
      (run (.hostWrite 0x105C#16 0x1234#16 bothLanes) inService).mem = inService.mem := by decide +kernel

/-- R168, R198: the even byte carries D[7:0]. -/
theorem test_hostWrite_scratch :
    (run (.hostWrite 0x0901#16 0x1234#16 bothLanes) closed).mem.read 0x0900 = 0x34#8 ∧
      (run (.hostWrite 0x0901#16 0x1234#16 highLane) closed).mem.readList 0x0900 2 = [0#8, 0x12#8] := by
  decide +kernel

/-- Section 10.8, events 1 and 2: the second arrival joins the tail. -/
theorem test_arrival_queues :
    (request (request inService 9 1 []) 2 1 []).intake.inspection = [9, 2] ∧
      (request (request inService 9 1 []) 2 1 []).notice.readyCount = 2 := by decide +kernel

/-- Section 10.8, event 5: kind 0Ah is answered within the write. -/
theorem test_arrival_unknown_kind :
    (request inService 6 0x0A []).answers 6 [0x41#8, 0x01#8] ∧ (request inService 6 0x0A []).notice.otherDone = 1 := by
  refine ⟨⟨?_, ?_⟩, ?_⟩ <;> decide +kernel

/-- Section 10.8, event 7: cell 9 stays at the head. -/
theorem test_withdrawal :
    (run (.withdrawal 2) (request (request inService 9 1 []) 2 1 [])).intake.inspection = [9] := by decide +kernel

/-- R178: the answer stands in a released cell. -/
theorem test_release :
    (run (.release 6) (request inService 6 0x0A [])).cellState 6 = .empty ∧
      (run (.release 6) (request inService 6 0x0A [])).cellByte 6 40 = 0x41#8 := by decide +kernel

/-! ### The clock -/

/-- R66, R67: midnight of day 20010 is one event and begins a sweep. -/
theorem test_secondAdvance_midnight :
    let s := run .secondAdvance { inService with
      clock := { exampleClock with minute := 1439, second := 59, subSecond := 32767 }
      deny := { inService.deny with list := fiveEntries } }
    s.clock = { exampleClock with day := 20011, minute := 0 } ∧ s.flag .dayChange = true ∧
      s.deny.sweep = some { day := 20011, position := 0xA100 } := by decide +kernel

/-- R68: the first edge after a loss returns to RUNNING with the clock still invalid. -/
theorem test_clk32Edge_after_loss :
    (run .clk32Edge (run .lossTimerExpiry inService)).clock.timebase = .running ∧
      (run .clk32Edge (run .lossTimerExpiry inService)).clock.valid = false := by decide +kernel

/-- Section 4.7: the time holds and CLOCK_LOST is set. -/
theorem test_lossTimerExpiry :
    (run .lossTimerExpiry inService).clock =
        { exampleClock with valid := false, timebase := .lost, lossTimer := false } ∧
      (run .lossTimerExpiry inService).flag .clockLost = true := by decide +kernel

/-- Section 4.7: the trim across midnight, 40 seconds forward. -/
theorem test_clockSet_trim :
    let s := run .clockSet (clockRequest
      { inService with clock := { exampleClock with minute := 1439, second := 50 } } 20011 0 30)
    s.answers 2 ([0x01#8, 0#8] ++ le16 20010 ++ le16 1439 ++ [50#8, 1#8, 1#8]) ∧ s.clock.day = 20011 ∧
      s.journey.serviceDay = 20010 := by
  refine ⟨⟨?_, ?_⟩, ?_, ?_⟩ <;> decide +kernel

/-- Section 4.7: 1,190 seconds back is too large a step. -/
theorem test_clockSet_too_large :
    (run .clockSet (clockRequest
      { inService with clock := { exampleClock with minute := 1439, second := 50 } } 20010 1420 0)).cellByte 2 40 =
      0x47#8 := by decide +kernel

/-! ### An inspection (section 2.7) -/

/-- The ride from 3 to 9 has the zones 41 to 44. -/
theorem test_inspect_ride :
    taken.engine.flight.map Flight.zones = some [41, 42, 43, 44] ∧ taken.cellState 5 = .taken := by decide +kernel

/-- The image passes, and its deny lookup waits for its media ID on day 20010. -/
theorem test_checkJobEnd_image :
    checked.deny.engineLookup = some (0x00A41C0093E2F7, 20010) ∧ checked.check = State.reset.check := by decide +kernel

/-- The verdict is SHORTFALL with C 2, a ride is taken and the mark carries sequence 12. -/
theorem test_denyLookup_shortfall :
    composing.engine.flight.map (fun f => (f.verdict, f.coveredCount, f.consumed, f.sequence)) =
      some (some .shortfall, 2, true, 12) := by decide +kernel

/-- Section 6.7: a lookup of A300h on day 20010 hits with reason 3, one of A100h misses. -/
theorem test_denyLookup_hit :
    denyHit fiveEntries 0xA300 20010 = some ⟨0xA300, 3, 20010⟩ ∧ denyHit fiveEntries 0xA100 20010 = none := by
  decide +kernel

/-- The answer of cell 5: SHORTFALL, amount 220, T 4, C 2, class 2, CONSUMED and IMAGE_UPDATED, sequence 12. -/
theorem test_inspectCompletion_answer :
    (run .inspectCompletion judged).answers 5
      ([0x10#8, 0#8] ++ le16 220 ++ [4#8, 2#8, 2#8, 0x03#8] ++ le16 2 ++ [7#8, 1#8, 12#8, 0#8] ++ le16 20010 ++
        le16 480 ++ [1#8]) := by
  refine ⟨?_, ?_⟩ <;> decide +kernel

/-- Table 2-10: the entry, the counter, the capture; the write-back image, rides remaining 6, has its check word. -/
theorem test_inspectCompletion_state :
    (run .inspectCompletion judged).rounds =
        [⟨0x00A41C0093E2F7, .shortfall, 220, true, 12, 1⟩] ∧
      (run .inspectCompletion judged).engine = { flight := none, counter := 12 } ∧
      (run .inspectCompletion judged).journey.capture.map CaptureRecord.amount = some 220 ∧
      (run .inspectCompletion judged).cellBody 5 =
        card.take 20 ++ [6#8, 0#8, 0#8, 0x08#8, 0xA6#8, 0x4E#8, 0x2A#8, 0x01#8, 0xE0#8, 12#8, 0x19#8, 0x9B#8] := by
  decide +kernel

/-! ### The check unit and the table unit -/

/-- R164: the issuer table's check goes on with its last two bytes. -/
theorem test_checkPieceEnd :
    let s := { closed with
      check := { State.reset.check with
        serving := some { owner := .tableUnit, remainder := 0xFFFF#16 }
        tableJob := some { base := 0x1010, length := 66, position := 0, remainder := 0xFFFF#16 } } }
    (run .checkPieceEnd s).check.tableJob.map TableJob.pieceLength = some 2 := by decide +kernel

/-- R165: DENY-BATCH and INSPECT fall together at the idle unit: the image check is served first. -/
theorem test_requests_at_idle_check_unit :
    let s := run .inspect (run .denyBatch (request batchReady 5 1 ([0#8, 3#8, 9#8, 0xFF#8] ++ card)))
    s.check.serving.map CheckService.owner = some .verdictEngine ∧
      (run .checkJobEnd s).engine.flight.map Flight.stage = some .deny := by decide +kernel

/-- Table 9-2, a batch of 16 records: with any event between the two requests, the batch's piece has begun, and the
image check waits for its end. -/
theorem test_request_behind_begun_piece :
    let b := request batchReady 5 1 ([0#8, 3#8, 9#8, 0xFF#8] ++ card)
    let s := run .inspect (run .clk32Edge (run .denyBatch { b with mem := b.mem.write 0x3000 16#8 }))
    s.check.serving.map CheckService.owner = some .tableUnit ∧ s.check.engineJob = some card ∧
      (run .checkPieceEnd s).check.serving.map CheckService.owner = some .verdictEngine ∧
      (run .checkPieceEnd s).check.tableJob.map TableJob.position = some 64 := by
  refine ⟨?_, ?_, ?_, ?_⟩ <;> decide +kernel

/-- R151: the worked tables pass every field check. -/
theorem test_fieldChecks_pass : exampleTables.fieldFault = none := by decide +kernel

/-- Section 8.7: entry 14 with the stop code of entry 13 is DUPLICATE at table 5, entry 14. -/
theorem test_fieldChecks_duplicate :
    (exampleTables.write (0x107E + 4 * 14) 113#8).fieldFault.map (fun r => (r.table, r.detail, r.entry)) =
      some (5, 0x04#8, 14) := by decide +kernel

/-- R149: the state is CHECKING and table 1 is checked from its 16 bytes. -/
theorem test_serviceOpen :
    (run .serviceOpen (request closed 20 4 [])).table = ⟨.checking, some (20, .serviceOpen 1 0xFF false)⟩ ∧
      (run .serviceOpen (request closed 20 4 [])).check.tableJob.map TableJob.length = some 16 := by decide +kernel

/-- Table 8-7: opened at minute 152, before d, the service day is 20009. -/
theorem test_serviceOpenCompletion :
    (run .serviceOpenCompletion openPassed).answers 20
        ([0x01#8, 0#8, 0#8, 0xFF#8] ++ le16 20009 ++ le16 20010 ++ le16 152) ∧
      (run .serviceOpenCompletion openPassed).journey.stop = 1 := by
  refine ⟨⟨?_, ?_⟩, ?_⟩ <;> decide +kernel

/-- Section 10.8, event 14: a close without a service is NOT_OPEN. -/
theorem test_serviceClose_not_open :
    (run .serviceClose (request closed 20 5 [])).cellByte 20 41 = 0x01#8 := by decide +kernel

/-- Section 8.7: the close waits for cell 5. -/
theorem test_serviceClose_waits :
    (run .serviceClose (request taken 21 5 [])).table = ⟨.inService, some (21, .serviceClose)⟩ := by decide +kernel

/-- Section 8.7: the answer of the close that waited has IN_SERVICE, round 3, stop 9, AT_STOP. -/
theorem test_serviceCloseCompletion :
    let s := run .serviceClose (request { taken with
      journey := { taken.journey with stop := 9, round := 3 } } 21 5 [])
    (run .serviceCloseCompletion { s with engine := { s.engine with flight := none } }).answers 21
      ([0x01#8, 0#8, 0x02#8] ++ le16 3 ++ [9#8, 0x01#8]) := by
  refine ⟨?_, ?_⟩ <;> decide +kernel

/-- Section 6.7: the extent is the 52 bytes from 3000h. -/
theorem test_denyBatch_extent :
    (run .denyBatch batchReady).check.tableJob.map (fun j => (j.base, j.length)) = some (0x3000, 52) ∧
      (run .denyBatch batchReady).guarded 0x3033 = true ∧ (run .denyBatch batchReady).guarded 0x3034 = false := by
  decide +kernel

/-- Section 9.6: the residue of the ten-ride ticket is 0000h. -/
theorem test_card_residue : checkOf card = 0#16 := by decide +kernel

/-- Table 6-3, edit 0: A600h after A500h, the next record handed over. -/
theorem test_add_inserts :
    (run .add (editing 0 (.add 0xA600 2 0xFFFF))).deny.list = fiveEntries ++ [⟨0xA600, 2, 0xFFFF⟩] ∧
      (run .add (editing 0 (.add 0xA600 2 0xFFFF))).deny.edit = some (.delete 0xA300) := by decide +kernel

/-- Table 6-3, edit 2: A200h keeps its place with reason 4, expiry 20020. -/
theorem test_add_replaces :
    (run .add (editing 2 (.add 0xA200 4 20020))).deny.list.take 2 = [⟨0xA100, 1, 20009⟩, ⟨0xA200, 4, 20020⟩] := by
  decide +kernel

/-- Table 6-3, edit 3: an absent medium is counted as applied, and the batch is DONE with 4 applied. -/
theorem test_delete_last :
    (run .delete (editing 3 (.delete 0xA700))).answers 11 [0x01#8, 0#8, 4#8, 0#8, 0xFF#8, 0xFF#8, 5#8, 0#8] := by
  refine ⟨?_, ?_⟩ <;> decide +kernel

/-- R112: CLEAR empties the list. -/
theorem test_clear : (run .clear (editing 0 .clear)).deny.list = [] := by decide +kernel

/-- Section 6.7: a probe of A100h on day 20010 finds EXPIRED, reason 1, expiry 20009. -/
theorem test_denyProbe_expired :
    let s := run .denyProbe (request { inService with deny := { inService.deny with list := fiveEntries } } 17 7
      [0#8, 0#8, 0#8, 0#8, 0#8, 0#8, 0#8, 0#8, 0#8, 0xA1#8, 0#8])
    (run (.denyLookup .tableUnit) s).answers 17
      ([0x01#8, 0x02#8, 1#8] ++ le16 20009 ++ le16 20010 ++ [5#8, 0#8]) := by
  refine ⟨?_, ?_⟩ <;> decide +kernel

/-- Table 6-4, step 1: A100h is removed and A200h is next. -/
theorem test_sweepStep_removes :
    (run .sweepStep (sweeping 0xA100)).deny.list.length = 4 ∧
      (run .sweepStep (sweeping 0xA100)).deny.sweep = some { day := 20011, position := 0xA200 } := by decide +kernel

/-- A batch's edit in service at the last edge of day 20010. -/
def editingAtMidnight : State :=
  { editing 0 (.add 0xA600 2 0xFFFF) with
    clock := { exampleClock with minute := 1439, second := 59, subSecond := 32767 } }

/-- R106, edit first: the batch's next edit waits behind the sweep. -/
theorem test_edit_before_dayChange :
    let s := run .secondAdvance (run .add editingAtMidnight)
    s.deny.list = fiveEntries ++ [⟨0xA600, 2, 0xFFFF⟩] ∧ s.deny.edit = some (.delete 0xA300) ∧
      s.deny.sweep = some { day := 20011, position := 0xA100 } ∧ run .delete s = s := by
  refine ⟨?_, ?_, ?_, ?_⟩ <;> decide +kernel

/-- R106, DAY_CHANGE first: the edit in service is applied, and the sweep then begins. -/
theorem test_dayChange_before_edit :
    let s := run .secondAdvance editingAtMidnight
    s.deny.sweep = none ∧ s.deny.serving = some .edit ∧
      (run .add s).deny.list = fiveEntries ++ [⟨0xA600, 2, 0xFFFF⟩] ∧
      (run .add s).deny.sweep = some { day := 20011, position := 0xA100 } := by
  refine ⟨?_, ?_, ?_, ?_⟩ <;> decide +kernel

/-- R105: a lookup that came to wait during the last edit is in service when the edit completes. -/
theorem test_lookup_after_edit :
    let s := editing 3 (.delete 0xA700)
    let t := run .delete { s with deny := { s.deny with engineLookup := some (0xA100, 20010) } }
    t.deny.serving = some (.lookup (some .verdictEngine)) ∧ t.cellState 11 = .done := by decide +kernel

/-- R105: with any event after the completion of an edit, the next edit has begun. -/
theorem test_next_edit_begins :
    (run .add editingAtMidnight).deny.serving = none ∧
      (run (.eventFlagsClear 0#16 bothLanes) (run .add editingAtMidnight)).deny.serving = some .edit := by decide +kernel

/-- Table 6-5: after step 2 of Table 6-4 the host sets the clock to day 20013, and the sweep restarts at A200h with no
further step against day 20011. -/
theorem test_sweep_restarts :
    let s := run .sweepStep (run .sweepStep { sweeping 0xA100 with table := { service := .noService, held := none } })
    (run .clockSet (clockRequest s 20013 0 0)).deny.sweep = some { day := 20013, position := 0xA200 } ∧
      (run .clockSet (clockRequest s 20013 0 0)).deny.list = fiveEntries.tail := by decide +kernel

/-- R105: the verdict engine's lookup is in service, and a probe asked for since waits for it. -/
theorem test_lookup_completes_first :
    let s := { checked.settled with deny := { checked.settled.deny with probeLookup := some 0xA100 } }
    run (.denyLookup .tableUnit) s = s ∧ (run (.denyLookup .verdictEngine) s).deny.engineLookup = none ∧
      (run (.denyLookup .verdictEngine) s).deny.serving = some (.lookup (some .tableUnit)) := by
  refine ⟨?_, ?_, ?_⟩ <;> decide +kernel

/-- Table 6-4, step 4: A500h is the last entry, and the sweep ends. -/
theorem test_sweepStep_ends : (run .sweepStep (sweeping 0xA500)).deny.sweep = none := by decide +kernel

/-! ### The journey (Table 7-3) -/

/-- Request 1. -/
theorem test_depart :
    (run .depart (journeyRequest (onRoute .atStop 1 1 none) 1 0xFF 0)).journey.kind = .inSection := by decide +kernel

/-- Request 2: NO_CHANGE. -/
theorem test_depart_again :
    (run .depart (journeyRequest (onRoute .inSection 1 1 none) 1 0xFF 0)).cellByte 30 41 = 0x01#8 := by decide +kernel

/-- Request 6: the path 5, 6, 7 has one boundary. -/
theorem test_arrive_boundary :
    (run .arrive (journeyRequest (onRoute .atStop 4 2 none) 2 7 0)).answers 30
      ([0x01#8, 0#8, 0x02#8, 7#8, 0x01#8] ++ le16 3 ++ [1#8]) := by
  refine ⟨?_, ?_⟩ <;> decide +kernel

/-- Request 10: STOP_REACHED, BOUNDARY and TERMINUS, and TERMINATED. -/
theorem test_arrive_terminus :
    (run .arrive (journeyRequest (onRoute .atStop 7 3 none) 2 9 0)).eventFlags = 0x0007#16 ∧
      (run .arrive (journeyRequest (onRoute .atStop 7 3 none) 2 9 0)).table.service = .terminated := by decide +kernel

/-- Request 4: the passed stop 3 makes round 2 and re-arms the capture. -/
theorem test_pass_boundary :
    (run .pass (journeyRequest (onRoute .inSection 2 1 (some heldFault)) 3 0xFF 0)).journey =
        { kind := .inSection, stop := 3, round := 2, serviceDay := 20010, capture := none, hold := none } ∧
      (run .pass (journeyRequest (onRoute .inSection 2 1 (some heldFault)) 3 0xFF 0)).eventFlags = 0x0002#16 := by
  decide +kernel

/-- Request 8: back into the section from 6, without a boundary. -/
theorem test_set_back :
    (run .set (journeyRequest (onRoute .atStop 7 3 none) 4 6 2)).journey.kind = .inSection ∧
      (run .set (journeyRequest (onRoute .atStop 7 3 none) 4 6 2)).journey.round = 3 := by decide +kernel

/-- R124: event 5 is BAD_REQUEST, detail 1. -/
theorem test_journeyBadEvent :
    (run .journeyBadEvent (journeyRequest (onRoute .atStop 7 3 none) 5 0 0)).answers 30
      ([0x41#8, 0x01#8, 0x02#8, 7#8, 0x01#8] ++ le16 3 ++ [0#8]) := by
  refine ⟨?_, ?_⟩ <;> decide +kernel

/-! ### Arithmetic (chapters 3, 4 and 9) -/

/-- Section 3.8: four masks. -/
theorem test_masks :
    coveredZones 0x0006#16 5 6 = [41, 42] ∧ coveredZones 0x0306#16 5 6 = [41, 42, 48, 49] ∧
      coveredZones 0x0808#16 9 9 = [75] ∧ coveredZones 0x0204#16 5 0xFF = [42] := by decide +kernel

/-- Section 3.8: the ride from 5 to 11 re-enters zone 43 and has T 4. -/
theorem test_ride_reenters : (exampleTables.rideZones 5 11).length = 4 := by decide +kernel

/-- Section 3.9: cases 1, 2 and 6. -/
theorem test_amounts :
    discounted 290 75 5 = 220 ∧ discounted 630 75 5 = 475 ∧ discounted 450 50 10 = 230 ∧ discounted 450 50 20 = 220 ∧
      exampleTables.amount .expired 4 0 2 0 = 6475 := by decide +kernel

/-- Table 4-2: the one-day pass at its last minute, in its grace and after it. -/
theorem test_windows :
    classifyWindow 28801610 28800600 28801620 15 = .pass false ∧ classifyWindow 28801634 28800600 28801620 15 = .pass true ∧
      classifyWindow 28801635 28800600 28801620 15 = .expired 0x01#8 := by decide +kernel

/-- Table 9-1. -/
theorem test_checkFigures : checkOf [0x00#8] = 0xE1F0#16 ∧ checkOf [0x01#8] = 0xF1D1#16 := by decide +kernel

/-! ### Well-formed commands -/

theorem test_engineReset_illFormed :
    (Instr.engineReset 0x0004#16 lowLane).wellFormed = false ∧
      (Instr.engineReset 0x0001#16 highLane).wellFormed = false := by decide

theorem test_answerMode_illFormed :
    (Instr.answerMode 0x0003#16 lowLane).wellFormed = false ∧ (Instr.answerMode 0x0002#16 highLane).wellFormed = false := by
  decide

theorem test_watermark_illFormed :
    (Instr.watermark 0x0071#16 lowLane).wellFormed = false ∧ (Instr.watermark 0x0070#16 noLane).wellFormed = false := by
  decide

theorem test_journeyFirst_illFormed :
    (Instr.journeyFirst 0x0081#16 lowLane).wellFormed = false ∧
      (Instr.journeyFirst 0x0080#16 highLane).wellFormed = false := by decide

theorem test_rearm_illFormed :
    (Instr.rearm 0x0004#16 lowLane).wellFormed = false ∧ (Instr.rearm 0x0009#16 lowLane).wellFormed = false ∧
      (Instr.rearm 0x0008#16 highLane).wellFormed = false := by decide

theorem test_mirrorWord0Read_illFormed : (Instr.mirrorWord0Read noLane).wellFormed = false := by decide

theorem test_hostWrite_illFormed :
    (Instr.hostWrite 0x0901#16 0#16 lowLane).wellFormed = false ∧
      (Instr.hostWrite 0x0900#16 0#16 noLane).wellFormed = false := by decide

/-- No row of the table gives bits, so no word spells a command. -/
theorem test_decodeTableWord : decodeTableWord 16 0x0001 = none ∧ (State.reset.withFetchWord 16 1) = State.reset := by
  decide +kernel

/-! ### Witnesses: the host's commands -/

/-- A cell TAKEN by the verdict engine beside a batch TAKEN by the table unit. -/
def twoTaken : State :=
  run .inspect (request (run .denyBatch batchReady) 5 1 ([0#8, 3#8, 9#8, 0xFF#8] ++ card))

/-- A step with no command waiting and a batch check asked for by the last. -/
theorem witness_StepRunsFrontCommand :
    let s := run .denyBatch batchReady
    s.pending = [] ∧ s.check.serving = none ∧ s.check.tableJob.isSome = true ∧
      (match step s with
        | .next t => decide (t.check.serving.map CheckService.owner = some .tableUnit)
        | .fault _ => false
        | .refused _ => false) = true := by decide +kernel

theorem witness_EngineResetResetsBlocks :
    lowLane.low = true ∧ (0x0007#16).getLsbD 0 = true ∧ (0x0007#16).extractLsb' 1 2 = 3#2 ∧
      (0x0003#16).getLsbD 0 = true ∧ (0x0003#16).extractLsb' 1 2 ≠ 3#2 := by decide

theorem witness_EngineResetAnswersCellsAndRebuildsQueues :
    twoTaken.memoryCanonical ∧ lowLane.low = true ∧ (0x0005#16).getLsbD 0 = true ∧ twoTaken.cellState 5 = .taken ∧
      twoTaken.kindOf 5 ≠ some .denyBatch ∧ twoTaken.cellState 11 = .taken ∧ twoTaken.kindOf 11 = some .denyBatch ∧
      twoTaken.table.held = some (11, .denyBatch 0x3000 4 0 false) := by decide +kernel

theorem witness_ControlWriteTakesFields :
    (0x00F6#16).getLsbD 0 = false ∧ (0x00F6#16).extractLsb' 1 2 = 3#2 ∧ (0x0002#16).getLsbD 0 = false ∧
      (0x0002#16).extractLsb' 1 2 ≠ 3#2 ∧ lowLane.low = true ∧ highLane.low = false := by decide

/-- A cell in each of the four states. -/
def fourStates : State :=
  request (request taken 6 0x0A []) 9 1 []

/-- FAULT above all; without it ANSWER in EACH mode, JOURNEY and MAINT. -/
def manyCauses : State :=
  { request { run .inspectCompletion judged with journey := inService.journey } 6 0x0A [] with
    notice := { (request (run .inspectCompletion judged) 6 0x0A []).notice with flags := 0x181#9, noteN := false } }

theorem witness_NoticeShowsHighestCause :
    manyCauses.faultCause = some 7 ∧ manyCauses.countsExact ∧ manyCauses.noteAgrees ∧
      (let s := run (.eventFlagsClear 0x0180#16 bothLanes) manyCauses;
        s.faultCause = none ∧ s.answerCause = some 5 ∧ s.notice.journeyFirst = false ∧ s.journeyCause = some 7) ∧
      (let s := run (.journeyFirst 0x0084#16 lowLane) (run (.eventFlagsClear 0x0180#16 bothLanes) manyCauses);
        s.faultCause = none ∧ s.notice.journeyFirst = true ∧ s.journeyCause = some 7) ∧
      (let s := run (.release 5) (run (.eventFlagsClear 0x01FF#16 bothLanes) manyCauses);
        s.faultCause = none ∧ s.answerCause = none ∧ s.journeyCause = none ∧ s.maintCause = some 1) := by
  decide +kernel

/-- FAULT of flag 7, the index of cell 5, and none. -/
theorem witness_NoticeShowsHighestCause_word :
    manyCauses.topCause = (4, 7) ∧ manyCauses.noticeWord = 0x0704#16 ∧
      (run (.eventFlagsClear 0x0180#16 bothLanes) manyCauses).noticeWord = 0x0501#16 ∧
      closed.topCause = (0, 0) ∧ closed.anyPending = false := by decide +kernel

theorem witness_NoticeShowsHighestCause_modes :
    (run (.answerMode 0x0000#16 lowLane) manyCauses).notice.mode = .off ∧
      (run (.answerMode 0x0002#16 lowLane) manyCauses).notice.mode = .first ∧ manyCauses.notice.mode = .each := by
  decide +kernel

theorem witness_HostReadsShowState :
    (highLane.low || highLane.high) = true ∧
      (run .clk32Edge (run (.mirrorWord0Read highLane) inService)).journey.hold =
        (run (.mirrorWord0Read highLane) inService).journey.hold ∧ 1 ≤ 31 := by decide +kernel

/-- Reads without a copy, and with one on each side of words 1 to 31; ENG_STATUS in each service state. -/
theorem witness_HostReadsShowState_live :
    inService.journey.hold = none ∧ 0x3FFF < 0x4000 ∧ (0x0400 ≤ 0x0400 ∨ 0x0420 ≤ 0x0400) ∧
      (0x0420 ≤ 0x0400 ∨ 0x0420 ≤ 0x0420) ∧ fourStates.countsExact ∧ fourStates.hostRead 0x8000#16 = 0x0416#16 ∧
      closed.countsExact ∧ closed.table.service = .noService ∧
      (run .serviceOpen (request closed 20 4 [])).countsExact ∧
      (run .serviceOpen (request closed 20 4 [])).table.service = .checking ∧
      (run .arrive (journeyRequest (onRoute .atStop 7 3 none) 2 9 0)).countsExact ∧
      (run .arrive (journeyRequest (onRoute .atStop 7 3 none) 2 9 0)).table.service = .terminated := by decide +kernel

/-- The bytes under each guard, and the bytes beside them. -/
theorem witness_HostWriteStoresOrIsDiscarded_guards :
    twoTaken.guarded 0x013F = false ∧ twoTaken.guarded 0x0140 = true ∧ twoTaken.guarded 0x017F = true ∧
      twoTaken.guarded 0x0FFF = false ∧ twoTaken.guarded 0x1000 = true ∧ closed.guarded 0x1000 = false ∧
      twoTaken.guarded 0x2FFF = true ∧ twoTaken.guarded 0x3000 = true ∧ twoTaken.guarded 0x3033 = true ∧
      twoTaken.guarded 0x3034 = false ∧ twoTaken.guarded 0x7FFF = false ∧ 0x7FFF < 0x8000 := by decide +kernel

/-- The edges of exchange memory, of the cells, of the mirror, and a state byte's word with no low lane. -/
theorem witness_HostWriteStoresOrIsDiscarded :
    taken.memoryCanonical ∧ 0x7FFE = evenAddress 0x7FFF#16 ∧ 0x7FFE < Config.memoryEnd ∧
      0x07FE = evenAddress 0x07FE#16 ∧ 0x07FE % Config.cellSize ≠ 0 ∧ 0 = evenAddress 0x0001#16 ∧ highLane.low = false ∧
      taken.guarded 0x0142 = true := by decide +kernel

theorem witness_HostWriteStoresOrIsDiscarded_registers :
    taken.noteAgrees ∧ evenAddress 0x8001#16 = Config.engStatusAddr ∧ evenAddress 0x8004#16 = Config.noticeAddr ∧
      0x800A ≤ evenAddress 0x800A#16 ∧ 0x800A ≤ evenAddress 0xFFFF#16 ∧ evenAddress 0x8003#16 = 0x8002 ∧
      evenAddress 0x8006#16 = 0x8006 ∧ evenAddress 0x8009#16 = 0x8008 := by decide +kernel

theorem witness_ArrivalQueuesOrIsAnswered :
    inService.memoryCanonical ∧ inService.cellState 31 = .empty ∧
      RequestKind.ofByte ((some 1#8).getD (inService.cellByte 31 1)) = some .inspect ∧
      RequestKind.ofByte ((some 7#8).getD (inService.cellByte 31 1)) = some .denyProbe ∧
      RequestKind.ofByte ((some 8#8).getD (inService.cellByte 31 1)) = none ∧
      RequestKind.ofByte ((none : Option Byte).getD (inService.cellByte 31 1)) = none := by decide +kernel

theorem witness_StateByteWritesByTable :
    fourStates.memoryCanonical ∧ fourStates.cellState 9 = .ready ∧ fourStates.cellState 5 = .taken ∧
      fourStates.cellState 6 = .done ∧ fourStates.cellState 31 = .empty ∧ 2 ≤ (lowByte 0x0002#16).toNat ∧
      1 ≤ (lowByte 0x0001#16).toNat ∧ lowByte 0xFF00#16 = 0#8 ∧ lowByte 0xFF01#16 = 1#8 := by decide +kernel

theorem witness_WithdrawalAndReleaseEmptyCell :
    fourStates.memoryCanonical ∧ fourStates.cellState 9 = .ready ∧ fourStates.kindOf 9 = some .inspect ∧
      fourStates.cellState 6 = .done ∧ fourStates.kindOf 6 = none ∧ fourStates.cellState 5 = .taken ∧
      fourStates.cellState 31 = .empty := by decide +kernel

/-! ### Witnesses: the clock -/

/-- The worked clock with another time. -/
def clockAt (day minute second subSecond : Nat) : State :=
  { inService with clock := { exampleClock with day := day, minute := minute, second := second, subSecond := subSecond } }

theorem witness_ClockCountsAndIsLost :
    (clockAt 0 0 0 32766).clock.subSecond < 32767 ∧
      ((clockAt 65534 1439 59 32767).clock.day ≤ 65535 ∧ (clockAt 65534 1439 59 32767).clock.subSecond = 32767 ∧
        ¬ ((clockAt 65534 1439 59 32767).clock.day = 65535)) ∧
      ((clockAt 65535 1439 59 32767).clock.day = 65535 ∧ (clockAt 65535 1439 59 32767).clock.minute = 1439 ∧
        (clockAt 65535 1439 59 32767).clock.second = 59) ∧
      (clockAt 0 0 0 0).clock.timebase = .running ∧ (clockAt 0 0 0 0).clock.lossTimer = true ∧
      State.reset.clock.timebase ≠ .running := by decide

/-- An accepted request at the last second of a day, and at the trim limit. -/
theorem witness_ClockSetAcceptedOrRefused :
    let s := clockRequest inService 20010 490 0
    s.memoryCanonical ∧ s.journeyHead .clockSet = some 2 ∧ s.clockRequest 2 = ⟨20010, 490, 0⟩ ∧
      ((absSecond s.clock.day s.clock.minute s.clock.second : Int) - absSecond 20010 490 0).natAbs ≤ 600 := by
  decide +kernel

theorem witness_ClockSetAcceptedOrRefused_free :
    let s := clockRequest closed 65535 1439 59
    s.memoryCanonical ∧ s.journeyHead .clockSet = some 2 ∧ s.clockRequest 2 = ⟨65535, 1439, 59⟩ ∧
      s.table.service = .noService := by decide +kernel

theorem witness_ClockSetAcceptedOrRefused_refused :
    (clockRequest closed 20010 1440 0).clockRequest 2 = ⟨20010, 1440, 0⟩ ∧
      (clockRequest closed 20010 0 60).clockRequest 2 = ⟨20010, 0, 60⟩ ∧
      (let s := clockRequest inService 20010 490 1;
        s.memoryCanonical ∧ s.journeyHead .clockSet = some 2 ∧ s.clockRequest 2 = ⟨20010, 490, 1⟩ ∧
          s.table.service ≠ .noService ∧ s.clock.valid = true ∧
          600 < ((absSecond s.clock.day s.clock.minute s.clock.second : Int) - absSecond 20010 490 1).natAbs) := by
  decide +kernel

/-! ### Witnesses: arithmetic and the check unit -/

theorem witness_ZonesTranslatedAndCounted :
    exampleTables.header.stops ≤ 48 ∧ 3 < exampleTables.header.stops ∧ 23 < exampleTables.header.stops ∧
      exampleTables.header.behind 23 3 = false ∧ exampleTables.header.behind 0 0 = false ∧ (31 ≤ 31 ∨ 31 = 0xFF) ∧
      (coveredZones 0xFFFF#16 30 31).length = 16 ∧ coveredZones 0xFF00#16 31 0xFF = [] := by decide +kernel

/-- Both ends of the ranges, a remainder below the half and one at it. -/
theorem witness_DiscountRoundsToNearestStep :
    (65535 ≤ 65535 ∧ 100 ≤ 100 ∧ 1 ≤ 1 ∧ 100 ≤ 100) ∧ 2 * (450 * 50 % (100 * 20)) < 100 * 20 ∧
      100 * 10 ≤ 2 * (450 * 50 % (100 * 10)) := by decide

theorem witness_AmountFollowsVerdict :
    exampleTables.fieldFault = none ∧ 220 ≤ exampleTables.header.cap ∧ 0 < exampleTables.header.rounding ∧
      exampleTables.fareStar 20 = exampleTables.fareStar 18 := by decide +kernel

/-- The moments on each side of a window's start, end and grace. -/
theorem witness_TimeStageJudgesWindow :
    (28800599 < 28800600 ∧ 28800600 ≤ 28800600) ∧ (28801619 < 28801620 ∧ 28801620 ≤ 28801620) ∧
      (28801634 < 28801620 + 15 ∧ 28801620 + 15 ≤ 28801635) := by decide

/-- A snapshot of day 20010 and a CHECKIN tap; the same with a RIDES credential of each unit (section 4.6). -/
theorem witness_TimeStageJudgesWindow_stage :
    let snap := inService.snapshot
    let k := Ticket.ofImage card
    snap.clockValid = true ∧ k.product ≠ 3 ∧ k.durationUnit = 1 ∧ ({ k with durationUnit := 0 }).durationUnit = 0 ∧
      ({ k with product := 3, startDay := 20010, startMinute := 179 }).startDay * 1440 + 179 <
        snap.serviceDay * 1440 + exampleTables.header.dayChange ∧
      snap.serviceDay * 1440 + exampleTables.header.dayChange ≤ 20010 * 1440 + 180 ∧
      ({ snap with clockValid := false }).clockValid = false := by decide +kernel

/-- The nine digits with their check word, and the same with bits 72 and 87 changed. -/
theorem witness_ResidueTellsShortChanges :
    let bs := [0x31#8, 0x32#8, 0x33#8, 0x34#8, 0x35#8, 0x36#8, 0x37#8, 0x38#8, 0x39#8, 0x29#8, 0xB1#8]
    let cs := [0x31#8, 0x32#8, 0x33#8, 0x34#8, 0x35#8, 0x36#8, 0x37#8, 0x38#8, 0x39#8, 0xA9#8, 0xB0#8]
    bs.length = cs.length ∧ bs ≠ cs ∧ checkOf bs = 0#16 ∧
      (bitsOf bs).take 72 = (bitsOf cs).take 72 ∧ (bitsOf bs).drop 88 = (bitsOf cs).drop 88 := by decide +kernel

/-- A table check in hand with the issuer table reached. -/
def tableChecking (table position : Nat) (remainder : Word) : State :=
  let s := run .serviceOpen (request loaded 20 4 [])
  { s with
    table := ⟨.checking, some (20, .serviceOpen table 0xFF false)⟩
    check := { s.check with
      serving := some { owner := .tableUnit, remainder := remainder }
      tableJob := some { base := (Config.tableExtent table).1, length := (Config.tableExtent table).2,
                         position := position, remainder := remainder } } }

/-- R166 with R185: a reset right after the end of table 1's check answers the open ABORTED where the check passed, and
leaves the answer TABLE_INVALID where it failed. -/
theorem test_reset_after_check :
    let reset := run (.engineReset 0x0005#16 lowLane)
    (reset (run .checkJobEnd (tableChecking 1 0 0xFFFF#16))).cellByte 20 40 = 0x42#8 ∧
      (reset (run .checkJobEnd (tableChecking 1 0 0x1234#16))).cellByte 20 40 = 0x46#8 ∧
      (reset (run .checkJobEnd (tableChecking 1 0 0xFFFF#16))).check = State.reset.check := by
  refine ⟨?_, ?_, ?_⟩ <;> decide +kernel

theorem witness_PieceEndSuspendsJob :
    (tableChecking 2 0 0xFFFF#16).check.choose.serving = some { owner := .tableUnit, remainder := 0xFFFF#16 } ∧
      (tableChecking 2 0 0xFFFF#16).check.tableJob = some ⟨0x1010, 66, 0, 0xFFFF#16⟩ ∧ 64 < 66 - 0 := by decide +kernel

/-- The image as presented, damaged, not sane, of an issuer not in the table. -/
theorem witness_ImageCheckEndJudges :
    taken.check.choose.serving = some { owner := .verdictEngine, remainder := 0xFFFF#16 } ∧
      taken.check.engineJob = some card ∧ taken.engine.flight.map Flight.stage = some .integrity ∧ checkFrom 0xFFFF#16 card = 0#16 ∧
      (Ticket.ofImage (taken.cellBody 5)).sane = true ∧
      taken.mem.findIssuer (Ticket.ofImage (taken.cellBody 5)).issuer = some ⟨12, 5, 6, 0⟩ ∧
      checkFrom 0xFFFF#16 (card.set 1 13#8) ≠ 0#16 ∧ (Ticket.ofImage (card.set 1 64#8)).sane = false ∧
      (Ticket.ofImage (card.set 1 63#8)).sane = true ∧ taken.mem.findIssuer 63 = none := by decide +kernel

/-- The worked write-back image at the end of its compose. -/
theorem witness_ImageCheckEndJudges_compose :
    composing.check.choose.serving = some { owner := .verdictEngine, remainder := 0xFFFF#16 } ∧
      composing.check.engineJob.isSome = true ∧
      composing.engine.flight.map Flight.stage = some (.composing .shortfall) ∧
      (composing.engine.flight.bind Flight.image).isSome = true ∧ card.length = 32 := by
  decide +kernel

/-- A value of every field at both sides of its range in Table 1-1. -/
theorem witness_ImageCheckEndJudges_sane :
    let k := Ticket.ofImage card
    k.sane = true ∧ ({ k with issuer := 63 }).sane = true ∧ ({ k with issuer := 64 }).sane = false ∧
      ({ k with product := 0 }).sane = false ∧ ({ k with product := 4 }).sane = false ∧
      ({ k with startMinute := 1440 }).sane = false ∧ ({ k with durationUnit := 2 }).sane = false ∧
      ({ k with markTrain := 1, markMinute := 1440 }).sane = false ∧
      ({ k with markTrain := 0, markMinute := 1440 }).sane = true := by decide +kernel

/-- The batch of section 6.7 at the end of its check, with its residue 0000h and with another, and with a first record
that stops it. -/
theorem witness_TableCheckEndGoesOn_batch :
    let s := run .denyBatch batchReady
    s.memoryCanonical ∧ s.check.choose.serving = some { owner := .tableUnit, remainder := 0xFFFF#16 } ∧
      s.check.tableJob = some ⟨0x3000, 52, 0, 0xFFFF#16⟩ ∧ 52 - 0 ≤ 64 ∧
      s.table.held = some (11, .denyBatch 0x3000 4 0 false) ∧ s.kindOf 11 = some .denyBatch ∧ 0 < 4 ∧
      s.mem.readList (0x3000 + 0) (52 - 0) = batchBytes.map byteOf ∧
      (s.mem.batchRecord 0x3000 0).judge = .ok (.add 0xA600 2 0xFFFF) ∧
      ((s.mem.write 0x3002 4#8).batchRecord 0x3000 0).judge = .error 0x04#8 := by decide +kernel

theorem witness_TableCheckEndGoesOn_batch_residues :
    checkFrom 0xFFFF#16 (batchBytes.map byteOf) = 0#16 ∧
      checkFrom 0xFFFF#16 ((batchBytes.set 2 4).map byteOf) ≠ 0#16 := by
  have cut (l : List Byte) (r : Word) (h : checkFrom 0xFFFF#16 (l.take 26) = r) :
      checkFrom 0xFFFF#16 l = checkFrom r (l.drop 26) := by
    rw [← h, ← checkFrom_append, List.take_append_drop]
  constructor
  · rw [cut _ 0x3E62#16 (by decide +kernel)]
    decide +kernel
  · rw [cut _ 0xD56D#16 (by decide +kernel)]
    decide +kernel

/-- Bytes and words as the statements about layouts read them. -/
theorem witness_layouts (m : Memory) : ∃ b w : Nat → Nat, (∀ a, b a = (m.read a).toNat) ∧
    (∀ a, w a = b a + 256 * b (a + 1)) :=
  ⟨fun a => (m.read a).toNat, fun a => (m.read a).toNat + 256 * (m.read (a + 1)).toNat, fun _ => rfl, fun _ => rfl⟩

/-- Table 1 with its residue 0000h and with another, table 5 at its last piece. -/
theorem witness_TableCheckEndGoesOn :
    let s := tableChecking 1 0 0xFFFF#16
    s.memoryCanonical ∧ s.check.choose.serving = some { owner := .tableUnit, remainder := 0xFFFF#16 } ∧
      s.check.tableJob = some ⟨0x1000, 16, 0, 0xFFFF#16⟩ ∧ 16 - 0 ≤ 64 ∧
      s.table.held = some (20, .serviceOpen 1 0xFF false) ∧ s.kindOf 20 = some .serviceOpen ∧
      checkFrom 0xFFFF#16 (s.mem.readList (0x1000 + 0) (16 - 0)) = 0#16 ∧
      checkFrom 0xFFFF#16 ((s.mem.write 0x1000 0#8).readList (0x1000 + 0) (16 - 0)) ≠ 0#16 := by decide +kernel

/-- The last two bytes of the route table: a remainder equal to them is a residue of 0000h. -/
theorem witness_TableCheckEndGoesOn_last :
    let s := tableChecking 5 192 0x0002#16
    s.check.tableJob = some ⟨0x107E, 194, 192, 0x0002#16⟩ ∧ 194 - 192 ≤ 64 ∧
      s.table.held = some (20, .serviceOpen 5 0xFF false) ∧ s.mem.fieldFault = none ∧
      checkFrom 0x0002#16 (s.mem.readList (0x107E + 192) (194 - 192)) = 0#16 ∧
      (s.mem.write (0x107E + 4 * 14) 113#8).fieldFault = some ⟨true, 5, 0x04#8, 14⟩ := by decide +kernel

/-! ### Witnesses: the verdict engine -/

/-- The worked inspection without a service, with a bad request, and with an image of another layout. -/
theorem witness_InspectTakesHeadWithSnapshot :
    presented.memoryCanonical ∧ presented.intake.inspection = 5 :: [] ∧ presented.engine.flight = none ∧
      presented.table.service ≠ .checking ∧ presented.table.held = none ∧ presented.cellByte 5 8 = 0x02#8 ∧
      requestFault presented.mem.header presented.snapshot (presented.inspectParams 5) = none ∧
      (let s := request inService 5 1 ([0#8, 23#8, 24#8, 0xFF#8] ++ card);
        s.intake.inspection = 5 :: [] ∧
          requestFault s.mem.header s.snapshot (s.inspectParams 5) = some 0x02#8) ∧
      (let s := request inService 5 1 ([0#8, 0xFF#8, 0xFF#8, 0xFF#8] ++ card.set 0 1#8);
        s.intake.inspection = 5 :: [] ∧ s.cellByte 5 8 ≠ 0x02#8 ∧
          requestFault s.mem.header s.snapshot (s.inspectParams 5) = none) ∧
      (request closed 5 1 []).intake.inspection = 5 :: [] ∧ (request closed 5 1 []).table.service = .noService := by
  decide +kernel

/-- Each row of Table 2-1 on the service of section 2.7, at the edge of its range. -/
theorem witness_InspectTakesHeadWithSnapshot_faults :
    let detail := fun (params : List Byte) => let s := request inService 5 1 (params ++ card)
      requestFault s.mem.header s.snapshot (s.inspectParams 5)
    detail [1#8, 7#8, 7#8, 7#8] = none ∧ detail [2#8, 24#8, 9#8, 8#8] = some 0x01#8 ∧
      detail [0#8, 24#8, 9#8, 8#8] = some 0x02#8 ∧ detail [0#8, 3#8, 24#8, 0xFF#8] = some 0x02#8 ∧
      detail [0#8, 8#8, 2#8, 8#8] = some 0x03#8 ∧ detail [0#8, 8#8, 2#8, 0xFF#8] = some 0x04#8 ∧
      detail [0#8, 7#8, 6#8, 0xFF#8] = some 0x05#8 := by
  refine ⟨?_, ?_, ?_, ?_, ?_, ?_, ?_⟩ <;> decide +kernel

theorem witness_LookupHitsUnexpiredEntry :
    (fiveEntries.map DenyEntry.mediaId).Pairwise (· < ·) ∧ checked.deny.choose.serving = some (.lookup (some .verdictEngine)) ∧
      checked.deny.engineLookup.isSome = true ∧ checked.deny.dayWaiting = none ∧
      (let u := checked.settled.deny.dayChange 20011;
        u.choose.serving = some (.lookup (some .verdictEngine)) ∧ u.dayWaiting = some 20011) ∧
      (let u := { checked.deny with serving := none, probeLookup := some 0xA100 };
        u.choose.serving = some (.lookup none)) ∧
      LookupRequester.verdictEngine ≠ .tableUnit := by
  decide +kernel

/-- The flight of section 2.7 at its deny stage. -/
def denyFlight : Flight :=
  { Flight.fresh 5 inService.snapshot with
    stage := .deny, ride := some (3, 9), zones := [41, 42, 43, 44], slices := some (5, 6), sane := true }

/-- The ticket of section 2.7 with other fields, at its deny stage in cell 5. -/
def atDeny (params image : List Byte) : State :=
  let s := inService.store (cellBase 5 + 4) (params ++ image)
  { s with
    engine := { s.engine with flight := some denyFlight }
    deny := { s.deny with
      serving := some (.lookup (some .verdictEngine)), engineLookup := some ((Ticket.ofImage image).mediaId, 20010) } }

/-- What the statements about a lookup of the verdict engine ask of a state. -/
abbrev lookupServed (s : State) (media : Nat) : Prop :=
  s.deny.choose.serving = some (.lookup (some .verdictEngine)) ∧ s.deny.engineLookup = some (media, 20010) ∧
    s.engine.flight.map Flight.stage = some .deny

/-- The round list of section 2.7 after the first presentation. -/
def ticketEntry : RoundEntry := ⟨0x00A41C0093E2F7, .shortfall, 220, true, 12, 1⟩

theorem witness_DenyLookupGivesRevokedPassbackRepeat :
    (let s := { checked with deny := { checked.deny with list := [⟨0x00A41C0093E2F7, 2, 20010⟩] } };
      lookupServed s 0x00A41C0093E2F7 ∧ denyHit s.deny.list 0x00A41C0093E2F7 20010 = some ⟨0x00A41C0093E2F7, 2, 20010⟩) ∧
      (let s := { checked with rounds := [ticketEntry] };
        lookupServed s 0x00A41C0093E2F7 ∧ denyHit s.deny.list 0x00A41C0093E2F7 20010 = none ∧
          roundEntry s.rounds (Ticket.ofImage (s.cellBody 5)).mediaId = some ticketEntry ∧
          (s.inspectParams 5).presentation = 0) ∧
      (let s := { atDeny [1#8, 3#8, 9#8, 0xFF#8] card with rounds := [ticketEntry] };
        lookupServed s 0x00A41C0093E2F7 ∧ (s.inspectParams 5).presentation ≠ 0) ∧
      roundEntry checked.rounds (Ticket.ofImage (checked.cellBody 5)).mediaId = none ∧ denyFlight.unformed := by
  decide +kernel

/-- A medium that neither list holds, in state `s`. -/
abbrev freshMedium (s : State) (k : Ticket) : Prop :=
  lookupServed s k.mediaId ∧ denyHit s.deny.list k.mediaId 20010 = none ∧ k = Ticket.ofImage (s.cellBody 5) ∧
    roundEntry s.rounds k.mediaId = none

/-- The time stage's outcomes: the ticket of section 2.7, one not yet valid, one expired, one in its grace, and a
clock that is not valid. -/
theorem witness_DenyLookupJudgesFreshMedium_time :
    let stage := fun (image : List Byte) (valid : Bool) =>
      timeStage exampleTables.header { inService.snapshot with clockValid := valid } (Ticket.ofImage image)
    let first := [0#8, 3#8, 9#8, 0xFF#8]
    (freshMedium (atDeny first card) (Ticket.ofImage card) ∧ stage card true = .pass false) ∧
      stage (card.set 13 0x4F#8) true = .notYetValid ∧ stage (card.set 19 9#8) true = .expired 0x01#8 ∧
      stage (((card.set 17 0#8).set 18 0x37#8).set 19 0xC6#8) true = .pass true ∧ stage card false = .unchecked := by
  decide +kernel

/-- Rides: a RIDES credential that needs a ride and holds none. Zones: C 0, C between, and C equal to T. -/
theorem witness_DenyLookupJudgesFreshMedium_zones :
    let k := fun (image : List Byte) => Ticket.ofImage image
    ((k (card.set 20 0#8)).product = 1 ∧ ¬ ((k card).markTrain = 2214 ∧ (k card).markDay = 20010) ∧
        (k (card.set 20 0#8)).ridesRemaining = 0) ∧
      (k card).ridesRemaining = 7 ∧ (k card).product ≠ 3 ∧
      countCovered [41, 42, 43, 44] (coveredZones (k (card.set 12 0x01#8)).zoneMask 5 6) = 0 ∧
      countCovered [41, 42, 43, 44] (coveredZones (k card).zoneMask 5 6) = 2 ∧
      countCovered [41, 42, 43, 44] (coveredZones (k (card.set 12 0x1E#8)).zoneMask 5 6) = 4 := by decide +kernel

/-- A check-in tap: a stop that is not on the route, one ahead of the train, and the boarding stop. -/
theorem witness_DenyLookupJudgesFreshMedium_checkin :
    let tap := fun code => (((card.set 2 3#8).set 22 code).set 13 0x4E#8).set 14 0x2A#8
    let s := atDeny [0#8, 3#8, 9#8, 0xFF#8] (tap 103#8)
    (Ticket.ofImage (tap 103#8)).product = 3 ∧ freshMedium s (Ticket.ofImage (tap 103#8)) ∧
      s.engine.flight.map Flight.ride = some (some (3, 9)) ∧
      s.mem.findStop (Ticket.ofImage (tap 255#8)).checkinStop = none ∧
      s.mem.findStop (Ticket.ofImage (tap 108#8)).checkinStop = some 8 ∧ s.mem.header.ahead 8 7 = true ∧
      s.mem.findStop (Ticket.ofImage (tap 103#8)).checkinStop = some 3 ∧
      (s.mem.header.ahead 3 7 || s.mem.header.ahead 3 9) = false := by decide +kernel

theorem witness_ValidVerdictComposesMark :
    freshMedium (atDeny [0#8, 3#8, 9#8, 0xFF#8] card) (Ticket.ofImage card) ∧ inService.engine.counter ≤ 255 ∧
      inService.snapshot.serviceDay ≤ 65535 ∧ inService.snapshot.minute ≤ 1439 ∧
      (run (.denyLookup .verdictEngine) (atDeny [0#8, 3#8, 9#8, 0xFF#8] card)).engine.flight.bind Flight.verdict =
        some .shortfall := by decide +kernel

/-- The rows of Table 5-2 on the card of section 2.7: the write that failed, the write that landed, an entry without a
mark, and a consumed ride on a card that holds none. -/
theorem witness_RepeatFollowsConsumptionGuard :
    let s := { atDeny [1#8, 3#8, 9#8, 0xFF#8] card with rounds := [ticketEntry] }
    let k := Ticket.ofImage card
    (lookupServed s k.mediaId ∧ s.engine.flight.bind Flight.image = none ∧
      denyHit s.deny.list k.mediaId 20010 = none ∧ k = Ticket.ofImage (s.cellBody 5) ∧
      roundEntry s.rounds k.mediaId = some ticketEntry ∧ (s.inspectParams 5).presentation = 1 ∧
      ticketEntry.sequence ≤ 255 ∧ s.snapshot.serviceDay ≤ 65535 ∧ s.snapshot.minute ≤ 1439) ∧
      (ticketEntry.sequence ≠ 0 ∧ ¬ (k.markTrain = s.mem.header.train) ∧ k.ridesRemaining ≠ 0) ∧
      (let w := Ticket.ofImage (card.take 23 ++ [0x08#8, 0xA6#8, 0x4E#8, 0x2A#8, 0x01#8, 0xE0#8, 12#8]);
        w.markTrain = s.mem.header.train ∧ w.markDay = 20010 ∧ w.markSequence = ticketEntry.sequence) ∧
      ({ ticketEntry with sequence := 0 }).sequence = 0 ∧
      (ticketEntry.consumed = true ∧ k.product = 1 ∧ (Ticket.ofImage (card.set 20 0#8)).ridesRemaining = 0) := by
  decide +kernel

theorem witness_InspectCompletionPosts :
    judged.memoryCanonical ∧ judged.engine.flight.map Flight.stage = some (.judged .shortfall) ∧
      judged.engine.flight.map Flight.cell = some 5 ∧ judged.kindOf 5 = some .inspect ∧
      (judged.inspectParams 5).override = 0xFF ∧ (Ticket.ofImage (judged.cellBody 5)).fareClass = 2 ∧
      judged.engine.flight.map Flight.sane = some true := by decide +kernel

/-- The flags 03h are those of the worked inspection, and its image is whole. -/
theorem witness_InspectCompletionPosts_flags :
    ∀ f ∈ judged.engine.flight, (0x03#8).getLsbD 0 = f.image.isSome ∧ (0x03#8).getLsbD 1 = f.consumed ∧
      (0x03#8).getLsbD 2 = f.grace ∧ (0x03#8).getLsbD 3 = f.timeUnchecked ∧
      (0x03#8).getLsbD 4 = (f.sane && decide (7 < 2)) ∧ (0x03#8).toNat < 64 ∧
      f.image.map List.length = some 32 := by decide +kernel

/-- An inspection of the worked ticket given a verdict, its snapshot of a round. -/
def completing (v : Verdict) (round : Nat) : State :=
  let f := { Flight.fresh 5 { inService.snapshot with round := round } with stage := .judged v }
  { presented with engine := { flight := some f, counter := 11 } }

/-- Inserted and not, of this round and an earlier one, a medium that the list holds, a full list, the capture ARMED and
HELD. -/
theorem witness_InspectCompletionRecords :
    (completing .expired 2).memoryCanonical ∧
      (completing .expired 2).engine.flight.map Flight.stage = some (.judged .expired) ∧
      (Ticket.ofImage ((completing .expired 2).cellBody 5)).mediaId = ticketEntry.mediaId ∧
      (completing .expired 2).journey.round = 2 ∧ (completing .expired 1).journey.round ≠ 1 ∧
      roundEntry (completing .expired 2).rounds ticketEntry.mediaId = none ∧
      roundEntry [ticketEntry] ticketEntry.mediaId = some ticketEntry ∧
      roundEntry ((List.range 256).map fun i => { ticketEntry with mediaId := i }) ticketEntry.mediaId = none ∧
      (completing .expired 2).journey.capture = none ∧ (onRoute .atStop 1 1 (some heldFault)).journey.capture ≠ none ∧
      (completing .unreadable 2).engine.flight.map Flight.stage = some (.judged .unreadable) := by decide +kernel

/-! ### Witnesses: the deny list unit -/

/-- What the statement about an edit asks of the worked batch with `i` records applied. -/
abbrev editInService (s : State) (count i : Nat) (e : Edit) : Prop :=
  s.memoryCanonical ∧ s.denyListSound ∧ s.deny.choose.serving = some .edit ∧
    s.table.held = some (11, .denyBatch 0x3000 count i true) ∧ s.kindOf 11 = some .denyBatch ∧ s.deny.edit = some e

/-- The edits of Table 6-2 with the next record handed over, and the last one. -/
theorem witness_EditAppliesAndBatchGoesOn :
    (editInService (editing 0 (.add 0xA600 2 0xFFFF)) 4 0 (.add 0xA600 2 0xFFFF) ∧ fiveEntries.length < 4096 ∧
        (batchReady.mem.batchRecord 0x3000 (0 + 1)).judge = .ok (.delete 0xA300)) ∧
      (editInService (editing 2 (.add 0xA200 4 20020)) 4 2 (.add 0xA200 4 20020) ∧
        (denyEntry (editing 2 .clear).deny.list 0xA200).isSome = true) ∧
      (editInService (editing 3 (.delete 0xA700)) 4 3 (.delete 0xA700) ∧ 4 ≤ 3 + 1) ∧
      editInService (editing 1 .clear) 4 1 .clear := by decide +kernel

/-- The next record with an op that is none, and with a reason that is none. -/
theorem witness_EditAppliesAndBatchGoesOn_stops :
    let s := editing 0 .clear
    ((s.mem.write 0x300E 4#8).batchRecord 0x3000 (0 + 1)).judge = .error 0x04#8 ∧
      ((s.mem.write 0x300E 1#8).batchRecord 0x3000 (0 + 1)).judge = .error 0x05#8 ∧
      ((s.mem.write 0x300E 1#8).write 0x300F 16#8 |>.batchRecord 0x3000 (0 + 1)).judge = .error 0x05#8 ∧
      Config.bulkBase ≤ 0x3000 := by decide +kernel

/-- Records at the edges of R113, and an edit in service with a DAY_CHANGE waiting for it. -/
theorem witness_EditAppliesAndBatchGoesOn_records :
    ((1 ≤ 15 ∧ 15 < 16) ∧ (4 ≠ 1 ∧ 4 ≠ 2 ∧ 4 ≠ 3) ∧ 0x300E = 0x3000 + 2 + 12 * 1) ∧
      (let s := run .secondAdvance editingAtMidnight;
        editInService s 4 0 (.add 0xA600 2 0xFFFF) ∧ s.deny.dayWaiting = some 20011) := by decide +kernel

/-- A list of 4,096 entries that does not hold the medium. -/
theorem witness_EditAppliesAndBatchGoesOn_full :
    let l := (List.range 4096).map fun i => (⟨i, 1, 0xFFFF⟩ : DenyEntry)
    let s := { editing 0 (.add 0xA600 2 0xFFFF) with deny :=
      { (editing 0 (.add 0xA600 2 0xFFFF)).deny with list := l } }
    4096 ≤ s.deny.list.length ∧ denyEntry s.deny.list 0xA600 = none := by
  refine ⟨by simp, ?_⟩
  simp only [denyEntry, List.find?_eq_none, List.mem_map, List.mem_range]
  rintro x ⟨i, hi, rfl⟩
  simp only [beq_iff_eq]
  omega

/-- Table 6-4, steps 1 and 5. -/
theorem witness_SweepStepJudgesOneEntry :
    (sweeping 0xA100).denyListSound ∧ (sweeping 0xA100).deny.choose.serving = some .sweepStep ∧
      (sweeping 0xA100).deny.sweep = some ⟨20011, 0xA100⟩ ∧
      (sweeping 0xA100).deny.list = [] ++ ⟨0xA100, 1, 20009⟩ :: fiveEntries.tail ∧
      (sweeping 0xA500).deny.list = fiveEntries.take 4 ++ ⟨0xA500, 1, 20008⟩ :: [] ∧
      (sweeping 0xA500).deny.dayWaiting = none := by decide +kernel

theorem witness_DayChangeSweepsList :
    (sweeping 0xA100).deny.serving ≠ none ∧ inService.deny.serving = none ∧
      (fiveEntries.map DenyEntry.mediaId).Pairwise (· < ·) ∧ 4 < fiveEntries.length ∧
      (editing 0 .clear).deny.serving ≠ none ∧ (editing 0 .clear).deny.dayWaiting = none ∧
      (editing 0 .clear).deny.list ≠ [] ∧ (sweeping 0xA100).deny.sweep.isSome = true ∧
      (sweeping 0xA100).deny.serving ≠ some .edit := by decide +kernel

/-! ### Witnesses: the journey unit -/

/-- Table 7-3, requests 1 and 2. -/
theorem witness_DepartEntersSection :
    let s := journeyRequest (onRoute .atStop 1 1 none) 1 0xFF 0
    s.memoryCanonical ∧ s.eventHead 1#8 = some 30 ∧ s.table.service = .inService ∧ s.journey.kind = .atStop ∧
      (journeyRequest (onRoute .inSection 1 1 none) 1 0xFF 0).eventHead 1#8 = some 30 := by decide +kernel

/-- Table 7-3, requests 5 and 10, and the last round. -/
theorem witness_ArriveMovesTrain :
    (let s := journeyRequest (onRoute .inSection 3 65535 none) 2 0xFF 0;
      s.memoryCanonical ∧ s.eventHead 2#8 = some 30 ∧ s.table.service = .inService ∧ s.journeyStop 30 = none ∧
        s.mem.header.next s.journey.stop = 4 ∧ s.mem.boundaryCount (s.mem.header.stopsBetween 4 4) = 0 ∧
        s.journey.round + 0 ≤ 65535) ∧
      (let s := journeyRequest (onRoute .atStop 7 65534 none) 2 9 0;
        s.memoryCanonical ∧ s.eventHead 2#8 = some 30 ∧ s.journeyStop 30 = some 9 ∧ 9 < s.mem.header.stops ∧
          s.mem.header.ahead 9 s.journey.stop = true ∧
          s.mem.boundaryCount (s.mem.header.stopsBetween (s.mem.header.next s.journey.stop) 9) = 1 ∧
          s.journey.round + 1 ≤ 65535) := by decide +kernel

/-- Table 7-3, requests 3 and 4, and the last round. -/
theorem witness_PassMovesSection :
    (let s := journeyRequest (onRoute .inSection 2 65534 none) 3 0xFF 0;
      s.memoryCanonical ∧ s.eventHead 3#8 = some 30 ∧ s.table.service = .inService ∧ s.journey.kind = .inSection ∧
        s.mem.header.next s.journey.stop = 3 ∧ s.mem.header.terminus ≠ 3 ∧ s.mem.isBoundary 3 = true ∧
        s.journey.round + 1 ≤ 65535) ∧
      (journeyRequest (onRoute .inSection 1 65535 none) 3 0xFF 0).eventHead 3#8 = some 30 ∧
      (onRoute .inSection 1 65535 none).mem.isBoundary 2 = false := by decide +kernel

/-- Table 7-3, request 8, the first stop of the route, and AT_STOP at the terminus. -/
theorem witness_SetPlacesTrain :
    (let s := journeyRequest (onRoute .atStop 7 3 none) 4 6 2;
      s.memoryCanonical ∧ s.eventHead 4#8 = some 30 ∧ s.table.service = .inService ∧ s.journeyStop 30 = some 6 ∧
        6 < s.mem.header.stops ∧ s.cellByte 30 10 = byteOf PosKind.inSection.code ∧ s.mem.header.terminus ≠ 6) ∧
      (let s := journeyRequest (onRoute .atStop 7 3 none) 4 0 1;
        s.eventHead 4#8 = some 30 ∧ s.journeyStop 30 = some 0) ∧
      (let s := journeyRequest (onRoute .atStop 7 3 none) 4 9 1;
        s.journeyStop 30 = some 9 ∧ 9 < s.mem.header.stops ∧ s.mem.header.terminus = 9 ∧
          s.cellByte 30 10 = byteOf PosKind.atStop.code) := by decide +kernel

/-- A refused request of section 7.11's train: the head of the queue with its event. -/
abbrev refusedRequest (s : State) (event : Byte) : Prop :=
  s.memoryCanonical ∧ s.journeyHead .journey = some 30 ∧ s.journeyEvent 30 = event

/-- Rows 1 to 5 of Table 7-1, and row 4 of a SET. -/
theorem witness_JourneyRefusalsChangeNothing :
    (refusedRequest (journeyRequest closed 1 0 0) 1#8 ∧ closed.table.service = .noService) ∧
      (let s := journeyRequest { onRoute .atStop 9 4 none with table := { service := .terminated, held := none } } 1 0 0;
        refusedRequest s 1#8 ∧ s.table.service = .terminated) ∧
      (refusedRequest (journeyRequest (onRoute .atStop 7 3 none) 0 0 0) 0#8 ∧
        refusedRequest (journeyRequest (onRoute .atStop 7 3 none) 5 0 0) 5#8) ∧
      (let s := journeyRequest (onRoute .atStop 7 3 none) 2 10 0;
        refusedRequest s 2#8 ∧ s.journeyStop 30 = some 10 ∧ s.mem.header.stops ≤ 10) ∧
      (let s := journeyRequest (onRoute .atStop 7 3 none) 2 7 0;
        refusedRequest s 2#8 ∧ s.journeyStop 30 = some 7 ∧ s.mem.header.ahead 7 s.journey.stop = false) ∧
      (let s := journeyRequest (onRoute .atStop 7 3 none) 4 10 1;
        refusedRequest s 4#8 ∧ s.journeyStop 30 = some 10) := by decide +kernel

/-- The other rows for ARRIVE, PASS and SET. -/
theorem witness_JourneyRefusalsChangeNothing_more :
    (let s := journeyRequest (onRoute .atStop 7 65535 none) 2 9 0;
      refusedRequest s 2#8 ∧ s.arriveTarget 30 = 9 ∧
        65535 < s.journey.round + s.mem.boundaryCount (s.mem.header.stopsBetween
          (s.mem.header.next s.journey.stop) (s.arriveTarget 30))) ∧
      (refusedRequest (journeyRequest (onRoute .atStop 7 3 none) 3 0 0) 3#8 ∧
        (onRoute .atStop 7 3 none).journey.kind ≠ .inSection) ∧
      (let s := journeyRequest (onRoute .inSection 8 3 none) 3 0 0;
        refusedRequest s 3#8 ∧ s.mem.header.next s.journey.stop = s.mem.header.terminus) ∧
      (let s := journeyRequest (onRoute .inSection 2 65535 none) 3 0 0;
        refusedRequest s 3#8 ∧ s.mem.isBoundary (s.mem.header.next s.journey.stop) = true) ∧
      (let s := journeyRequest (onRoute .atStop 7 3 none) 4 0xFF 1;
        refusedRequest s 4#8 ∧ s.journeyStop 30 = none) ∧
      (let s := journeyRequest (onRoute .atStop 7 3 none) 4 0 3;
        refusedRequest s 4#8 ∧ s.cellByte 30 10 ≠ 1#8 ∧ s.cellByte 30 10 ≠ 2#8) ∧
      (let s := journeyRequest (onRoute .atStop 7 3 none) 4 9 2;
        refusedRequest s 4#8 ∧ s.journeyStop 30 = some s.mem.header.terminus ∧ s.cellByte 30 10 = 2#8) := by
  decide +kernel

/-! ### Witnesses: the table unit -/

theorem witness_ServiceOpenTakesCell :
    (let s := request closed 20 4 [];
      s.memoryCanonical ∧ s.tableHead .serviceOpen = some 20 ∧ s.table.service = .noService ∧ s.clock.valid = true) ∧
      (let s := request { closed with clock := State.reset.clock } 20 4 [];
        s.memoryCanonical ∧ s.tableHead .serviceOpen = some 20 ∧ s.clock.valid = false) ∧
      (request inService 20 4 []).tableHead .serviceOpen = some 20 ∧ inService.table.service = .inService := by
  decide +kernel

theorem witness_ServiceOpenCompletes :
    openPassed.memoryCanonical ∧ openPassed.table.held = some (20, .serviceOpen 1 2 true) ∧
      openPassed.kindOf 20 = some .serviceOpen := by decide +kernel

theorem witness_ServiceCloseTakesOrCompletes :
    ((request closed 21 5 []).memoryCanonical ∧ (request closed 21 5 []).tableHead .serviceClose = some 21 ∧
        closed.table.service = .noService) ∧
      ((request inService 21 5 []).tableHead .serviceClose = some 21 ∧ inService.table.service.isOpen = true ∧
        inService.engine.flight = none) ∧
      ((request taken 21 5 []).tableHead .serviceClose = some 21 ∧ taken.engine.flight.isSome = true) ∧
      (let s := run .serviceClose (request taken 21 5 []);
        s.memoryCanonical ∧ s.table.held = some (21, .serviceClose) ∧ s.kindOf 21 = some .serviceClose ∧
          s.engine.flight.isSome = true) := by decide +kernel

/-- The batch of section 6.7, and the conditions of its range check at their edges. -/
theorem witness_DenyBatchChecksRange :
    (batchReady.memoryCanonical ∧ batchReady.tableHead .denyBatch = some 11 ∧ batchReady.cellWord 11 8 = 0x3000 ∧
        batchReady.mem.read16 0x3000 = 4) ∧
      (let s := request inService 11 6 [0#8, 0#8, 0#8, 0#8, 0xFF#8, 0x2F#8];
        s.tableHead .denyBatch = some 11 ∧ s.cellWord 11 8 = 0x2FFF) ∧
      (let s := request inService 11 6 [0#8, 0#8, 0#8, 0#8, 0xFF#8, 0x7F#8];
        s.tableHead .denyBatch = some 11 ∧ s.cellWord 11 8 = 0x7FFF) ∧
      (let s := request inService 11 6 [0#8, 0#8, 0#8, 0#8, 0xFE#8, 0x7F#8];
        s.tableHead .denyBatch = some 11 ∧ s.cellWord 11 8 = 0x7FFE ∧ s.mem.read16 0x7FFE = 0 ∧
          (s.mem.write 0x7FFE 1#8).read16 0x7FFE = 1 ∧ 0x8000 < 0x7FFE + 2 + 12 * 1 + 2) ∧
      ((closed.mem.writeList 0x4FFC [0x00#8, 0x04#8]).read16 0x4FFC = 1024 ∧ 0x4FFC + 2 + 12 * 1024 + 2 ≤ 0x8000 ∧
        (closed.mem.writeList 0x4FFC [0x01#8, 0x04#8]).read16 0x4FFC = 1025) := by decide +kernel

theorem witness_DenyProbeAsksAndIsAnswered :
    let r := request { inService with deny := { inService.deny with list := fiveEntries } } 17 7
      [0#8, 0#8, 0#8, 0#8, 0#8, 0#8, 0#8, 0#8, 0#8, 0xA1#8, 0#8]
    let s := run .denyProbe r
    r.memoryCanonical ∧ r.tableHead .denyProbe = some 17 ∧ r.deny.serving = none ∧ s.memoryCanonical ∧
      s.deny.choose.serving = some (.lookup (some .tableUnit)) ∧ s.deny.probeLookup = some 0xA100 ∧ s.table.held = some (17, .denyProbe) ∧
      s.kindOf 17 = some .denyProbe ∧ denyEntry s.deny.list 0xA100 = some ⟨0xA100, 1, 20009⟩ ∧
      denyEntry inService.deny.list 0xA100 = none := by decide +kernel

/-! ### Witnesses: the invariants and the rules of the whole machine -/

/-- The worked inspection under way beside the worked batch, with an arrival at the front of the queue of commands. -/
@[irreducible] def busy : State := { twoTaken with pending := [.arrival 9 (some 1#8), .checkJobEnd] }

theorem busy_steps :
    (match step busy with
      | .next t => decide (t.notice.readyCount = 1)
      | .fault _ => false
      | .refused _ => false) = true := by decide +kernel

theorem busy_service : busy.table.service = .inService := by decide +kernel

theorem busy_held : busy.table.held = some (11, .denyBatch 0x3000 4 0 false) := by decide +kernel

theorem busy_stage : busy.engine.flight.map Flight.stage = some .integrity := by decide +kernel

theorem witness_StepKeepsCellsQueuesAndCounts :
    busy.memoryCanonical ∧ busy.countsExact ∧ busy.cellBytesLegal ∧ busy.queuesExact ∧ busy.takenHeld := by
  decide +kernel

theorem witness_StepKeepsLineCaptureAndClock :
    busy.noteAgrees ∧ busy.captureAgrees ∧ busy.clockInRange ∧ busy.timebaseSound := by decide +kernel

theorem witness_StepKeepsLists : busy.roundListSound ∧ busy.denyListSound ∧ (sweeping 0xA300).sweepSound := by
  decide +kernel

theorem witness_StepKeepsLists_sweep : (sweeping 0xA300).deny.busy :=
  (rfl : (sweeping 0xA300).deny.sweep.isSome = true)

theorem witness_StepKeepsMirror :
    inService.memoryCanonical ∧ inService.mirrorShows ∧ inService.table.service.isOpen = true ∧ closed.mirrorShows ∧
      closed.table.service.isOpen = false ∧ inService.journey.capture = none ∧
      (onRoute .atStop 1 1 (some heldFault)).mirrorShows ∧
      (onRoute .atStop 1 1 (some heldFault)).journey.capture = some heldFault := by decide +kernel

theorem witness_StepKeepsServiceForm : busy.serviceSound ∧ busy.inspectionsFit := by
  simp only [State.serviceSound, State.journeyForm, State.taskFits, busy_held, busy_service]
  decide +kernel

theorem witness_StepKeepsWorkLinked : busy.workLinked := by
  have h : busy.check.serving = some { owner := .tableUnit, remainder := 0xFFFF#16 } := by decide +kernel
  have hd : busy.deny.serving = none := by decide +kernel
  simp only [State.workLinked, State.engineLinked, State.tableLinked, CheckUnit.busy, DenyUnit.busy, busy_held,
    busy_stage, h, hd, Option.map_some]
  decide +kernel

/-- The batch's job before its first piece has ended. -/
theorem witness_StepKeepsTableJob : busy.tableJobSound := by
  have h : busy.check.tableJob = some ⟨0x3000, 52, 0, 0xFFFF#16⟩ := by decide +kernel
  simp only [State.tableJobSound, h, busy_held, Option.mem_def, Option.some.injEq, forall_eq']
  decide +kernel

theorem witness_StepKeepsImagesSound : composing.counterInRange ∧ judged.counterInRange ∧
    (∀ e ∈ [ticketEntry], e.sequence ≤ 255) ∧
    (∀ w ∈ composing.settled.check.serving, w.owner = .verdictEngine ∧ w.remainder = checkPreset) ∧
    composing.settled.check.serving.isSome ∧
    (∀ f ∈ judged.engine.flight, ∀ img ∈ f.image, img.length = 32 ∧ imageByte img 29 ≠ 0#8 ∧ checkOf img = 0#16) ∧
    (∀ f ∈ composing.engine.flight, f.image.isSome ∧ ∀ img ∈ f.image,
      img.length = 32 ∧ imageByte img 29 ≠ 0#8 ∧ composing.check.engineJob = some (img.take 30)) := by decide +kernel

/-- A TAKEN cell, a write to it, and the extent of the worked batch. -/
theorem witness_GuardedMemoryHolds :
    busy.table.service ≠ .noService ∧ busy.cellState 5 = .taken ∧ (Instr.release 5).resets = false ∧
      (Instr.hostWrite 0x0142#16 0xFFFF#16 bothLanes).resets = false ∧
      busy.table.held = some (11, .denyBatch 0x3000 4 0 false) ∧ Config.bulkBase ≤ 0x3000 := by decide +kernel

/-- Each row of Table 8-3 comes about. -/
theorem witness_ServiceStateChangesByTable :
    ((run .serviceOpen (request closed 20 4 [])).table.service = .checking ∧ closed.table.service = .noService) ∧
      (openPassed.table.service = .checking ∧ (run .serviceOpenCompletion openPassed).table.service = .inService) ∧
      (run .checkJobEnd (tableChecking 1 0 0x1234#16)).table.service = .noService ∧
      (run .arrive (journeyRequest (onRoute .atStop 7 3 none) 2 9 0)).table.service = .terminated ∧
      (run .serviceClose (request inService 21 5 [])).table.service = .noService ∧
      (run (.hostWrite 0x8002#16 0x0001#16 lowLane) inService).table.service = .noService := by decide +kernel

theorem witness_ServiceStateChangesByTable_sound : (request inService 21 5 []).serviceSound := by
  have h : (request inService 21 5 []).table = ⟨.inService, none⟩ := by decide +kernel
  simp only [State.serviceSound, State.journeyForm, State.taskFits, h]
  decide +kernel

/-- A flag cleared by its write, and FIRST_FAULT by a boundary. -/
theorem witness_FlagsAreSticky :
    let s := journeyRequest (onRoute .inSection 2 1 (some heldFault)) 3 0xFF 0
    s.flag .firstFault = true ∧ (run .pass s).flag .firstFault = false ∧
      (run (.eventFlagsClear 0x0100#16 bothLanes) s).flag .firstFault = false := by decide +kernel

theorem witness_OwnersAloneChangeTheirState :
    (run .clk32Edge inService).clock ≠ inService.clock ∧
      (run .clear (editing 1 .clear)).deny.list ≠ (editing 1 .clear).deny.list ∧
      (run .inspectCompletion judged).engine.counter ≠ judged.engine.counter ∧
      (run (.eventEnableWrite 0#16 lowLane) inService).notice.enable ≠ inService.notice.enable ∧
      (run .serviceClose (request inService 21 5 [])).journey.round ≠ inService.journey.round := by decide +kernel

/-- The round list, the capture, the position, the service day and the three queues each change by an owner. -/
theorem witness_OwnersAloneChangeTheirState_journey :
    (run .inspectCompletion judged).rounds ≠ judged.rounds ∧
      (run .inspectCompletion judged).journey.capture ≠ judged.journey.capture ∧
      Instr.inspectCompletion.resets = false ∧
      (run .depart (journeyRequest (onRoute .atStop 1 1 none) 1 0xFF 0)).journey.kind ≠ .atStop ∧
      (run .serviceClose (request inService 21 5 [])).journey.serviceDay ≠ inService.journey.serviceDay ∧
      Instr.inspect.writesStateByte = false ∧ presented.intake.inspection ≠ taken.intake.inspection ∧
      (run .depart (journeyRequest (onRoute .atStop 1 1 none) 1 0xFF 0)).intake.journey ≠ [30] ∧
      (run .denyBatch batchReady).intake.table ≠ batchReady.intake.table := by decide +kernel

end Sys2Proof.Tests
end

section
/-!
Rounding of the class share (R59). Each branch of `discounted` is read once, as a product and as a distance from
base × share; the bounds on both sides follow from the two distances.
-/
namespace Sys2Proof.Machine

theorem discounted_of_rem_lt_half {base share r : Nat} (h : 2 * (base * share % (100 * r)) < 100 * r) :
    discounted base share r = base * share / (100 * r) * r := by
  rw [Nat.mod_eq_sub_div_mul] at h
  exact if_pos h

theorem discounted_of_half_le_rem {base share r : Nat} (h : 100 * r ≤ 2 * (base * share % (100 * r))) :
    discounted base share r = (base * share / (100 * r) + 1) * r := by
  rw [Nat.mod_eq_sub_div_mul] at h
  exact if_neg h.not_gt

/-- Rounded down, a hundred times the discount falls short of base × share by the remainder. -/
theorem hundred_discounted_add_rem_of_lt_half {base share r : Nat}
    (h : 2 * (base * share % (100 * r)) < 100 * r) :
    100 * discounted base share r + base * share % (100 * r) = base * share := by
  rw [discounted_of_rem_lt_half h]
  calc 100 * (base * share / (100 * r) * r) + base * share % (100 * r)
      _ = 100 * r * (base * share / (100 * r)) + base * share % (100 * r) := by ring
      _ = base * share := Nat.div_add_mod ..

/-- Rounded up, it passes base × share by what the remainder lacks of a whole step. -/
theorem hundred_discounted_add_rem_of_half_le {base share r : Nat}
    (h : 100 * r ≤ 2 * (base * share % (100 * r))) :
    100 * discounted base share r + base * share % (100 * r) = base * share + 100 * r := by
  rw [discounted_of_half_le_rem h]
  calc 100 * ((base * share / (100 * r) + 1) * r) + base * share % (100 * r)
      _ = 100 * r * (base * share / (100 * r)) + base * share % (100 * r) + 100 * r := by ring
      _ = base * share + 100 * r := by rw [Nat.div_add_mod]

theorem step_dvd_discounted (base share r : Nat) : r ∣ discounted base share r := by
  rcases Nat.lt_or_ge (2 * (base * share % (100 * r))) (100 * r) with down | up
  · rw [discounted_of_rem_lt_half down]
    exact Nat.dvd_mul_left ..
  · rw [discounted_of_half_le_rem up]
    exact Nat.dvd_mul_left ..

/-- At most half a step above base × share ÷ 100: half a step is the tie, which rounds up. -/
theorem discounted_le_half_step_above (base share r : Nat) :
    2 * (100 * discounted base share r) ≤ 2 * (base * share) + 100 * r := by
  rcases Nat.lt_or_ge (2 * (base * share % (100 * r))) (100 * r) with down | up
  · have := hundred_discounted_add_rem_of_lt_half down
    omega
  · have := hundred_discounted_add_rem_of_half_le up
    omega

/-- Less than half a step below it: rounding down needs a remainder under the half. -/
theorem lt_discounted_add_half_step {base share r : Nat} (hr : 0 < r) :
    2 * (base * share) < 2 * (100 * discounted base share r) + 100 * r := by
  rcases Nat.lt_or_ge (2 * (base * share % (100 * r))) (100 * r) with down | up
  · have := hundred_discounted_add_rem_of_lt_half down
    omega
  · have := hundred_discounted_add_rem_of_half_le up
    have : base * share % (100 * r) < 100 * r := Nat.mod_lt _ (by omega)
    omega

theorem discounted_of_mul_eq_zero {base share r : Nat} (hr : 0 < r) (h : base * share = 0) :
    discounted base share r = 0 := by
  have down : 2 * (base * share % (100 * r)) < 100 * r := by
    rw [h, Nat.zero_mod]
    omega
  rw [discounted_of_rem_lt_half down, h, Nat.zero_div, Nat.zero_mul]

/-- Settles O19, from the two branches of the rounding and the half step on either side. -/
theorem discountRoundsToNearestStep : Obligations.DiscountRoundsToNearestStep := by
  intro base share r hbase hshare hr hr100
  have hraw : base * share ≤ 65535 * 100 := Nat.mul_le_mul hbase hshare
  have above := discounted_le_half_step_above base share r
  refine ⟨hraw, discounted_of_rem_lt_half, discounted_of_half_le_rem, step_dvd_discounted .., above,
    lt_discounted_add_half_step hr, fun hzero => discounted_of_mul_eq_zero hr (Nat.mul_eq_zero.mpr hzero), ?_⟩
  omega

end Sys2Proof.Machine
end

section
/-!
The figures of Table 9-1 (R167). The nine digits are divided once; the two rows that store a check word after them go on
from that remainder.
-/
namespace Sys2Proof.Machine

/-- The digits 1 to 9 of the third row of Table 9-1. -/
def nineDigits : List Byte :=
  [0x31#8, 0x32#8, 0x33#8, 0x34#8, 0x35#8, 0x36#8, 0x37#8, 0x38#8, 0x39#8]

theorem checkOf_nineDigits : checkOf nineDigits = 0x29B1#16 := by decide +kernel

theorem checkOf_nineDigits_append (bs : List Byte) : checkOf (nineDigits ++ bs) = checkFrom 0x29B1#16 bs := by
  calc checkOf (nineDigits ++ bs)
      _ = checkFrom (checkOf nineDigits) bs := checkFrom_append ..
      _ = checkFrom 0x29B1#16 bs := by rw [checkOf_nineDigits]

theorem checkOf_nineDigits_highByte_first : checkOf (nineDigits ++ [0x29#8, 0xB1#8]) = 0x0000#16 := by
  rw [checkOf_nineDigits_append]
  decide +kernel

theorem checkOf_nineDigits_lowByte_first : checkOf (nineDigits ++ [0xB1#8, 0x29#8]) ≠ 0x0000#16 := by
  rw [checkOf_nineDigits_append]
  decide +kernel

/-- Settles O22: the one-byte rows by the division itself, the others from the remainder over the nine digits. -/
theorem checkFigures : Obligations.CheckFigures := by
  have zeroByte : checkOf [0x00#8] = 0xE1F0#16 := by decide
  have oneByte : checkOf [0x01#8] = 0xF1D1#16 := by decide
  exact ⟨zeroByte, oneByte, checkOf_nineDigits, checkOf_nineDigits_highByte_first, checkOf_nineDigits_lowByte_first⟩

end Sys2Proof.Machine
end

section
/-!
EVENT_ENABLE (R189), read bit by bit: what a write leaves in each bit, which bits make the two causes of the flags
pending, and that every update an engine reset is made of keeps them.
-/
namespace Sys2Proof.Machine

/-! ### The write -/

/-- The byte lane that carries a flag's bit is selected: the low lane for flags 0 to 7, the high lane for flag 8. -/
def laneSelected (lanes : Lanes) (i : Fin 9) : Bool :=
  if i.val < 8 then lanes.low else lanes.high

theorem getLsbD_laneMask (lanes : Lanes) (i : Fin 9) : (laneMask lanes).getLsbD i = laneSelected lanes i := by
  obtain ⟨low, high⟩ := lanes
  revert low high i
  decide

theorem getLsbD_laneFlags (data : Word) (lanes : Lanes) (i : Fin 9) :
    (laneFlags data lanes).getLsbD i = (data.getLsbD i && laneSelected lanes i) := by
  simp only [laneFlags, BitVec.getLsbD_setWidth, BitVec.getLsbD_and, getLsbD_laneMask, i.isLt, decide_true,
    Bool.true_and]

theorem State.getLsbD_writeEventEnable (s : State) (data : Word) (lanes : Lanes) (i : Fin 9) :
    (s.writeEventEnable data lanes).notice.enable.getLsbD i =
      if laneSelected lanes i then data.getLsbD i else s.notice.enable.getLsbD i := by
  have merged : (s.writeEventEnable data lanes).notice.enable.getLsbD i =
      ((s.notice.enable.getLsbD i && !laneSelected lanes i) || (data.getLsbD i && laneSelected lanes i)) := by
    simp only [State.writeEventEnable, BitVec.getLsbD_or, BitVec.getLsbD_and, BitVec.getLsbD_not,
      BitVec.getLsbD_setWidth, getLsbD_laneMask, getLsbD_laneFlags, i.isLt, decide_true, Bool.true_and]
  rw [merged]
  cases laneSelected lanes i <;> simp

/-- The write is one event (log entry 9). -/
theorem exec_eventEnableWrite (s : State) (data : Word) (lanes : Lanes) :
    exec (.eventEnableWrite data lanes) s = .next (s.writeEventEnable data lanes).driveNote.settled := rfl

/-- Of the state the units settle to, the write changes the enable bits and NOTE_N alone. -/
theorem State.settled_writeEventEnable (s : State) (data : Word) (lanes : Lanes) :
    let t := (s.writeEventEnable data lanes).driveNote.settled
    t = { s.settled with notice := { s.notice with enable := t.notice.enable, noteN := !t.anyPending } } := rfl

/-! ### The register -/

theorem State.hostRead_eventEnable (s : State) : s.hostRead 0x8008#16 = s.eventEnable := rfl

theorem State.getLsbD_eventEnable (s : State) (i : Nat) : s.eventEnable.getLsbD i = s.notice.enable.getLsbD i := by
  rw [State.eventEnable, BitVec.getLsbD_setWidth, Bool.and_eq_right_iff_imp, decide_eq_true_iff]
  intro stored
  have := BitVec.lt_of_getLsbD stored
  omega

/-- The bits that carry no flag read 0. -/
theorem State.eventEnable_reserved (s : State) : s.eventEnable &&& 0xFE00#16 = 0#16 := by
  refine BitVec.eq_of_getLsbD_eq fun i _ => ?_
  rw [BitVec.getLsbD_and, State.getLsbD_eventEnable, BitVec.getLsbD_zero]
  rcases Nat.lt_or_ge i 9 with carried | reserved
  · have outside : ∀ i : Fin 9, (0xFE00#16).getLsbD i = false := by decide
    rw [outside ⟨i, carried⟩, Bool.and_false]
  · rw [BitVec.getLsbD_of_ge _ _ reserved, Bool.false_and]

/-! ### The causes of the flags (R193) -/

theorem getLsbD_journeyClass (i : Fin 9) : journeyClass.getLsbD i = decide (i.val < 4) := by
  revert i
  decide

theorem ne_zero_iff_exists_getLsbD {w : Nat} (x : BitVec w) : x ≠ 0#w ↔ ∃ i : Fin w, x.getLsbD i := by
  simp only [ne_eq, BitVec.eq_of_getLsbD_eq_iff, BitVec.getLsbD_zero, not_forall, Bool.not_eq_false,
    Fin.exists_iff]

theorem State.journeyCause_isSome_iff (s : State) :
    s.journeyCause.isSome ↔ ∃ i : Fin 9, i.val < 4 ∧ s.notice.flags.getLsbD i ∧ s.notice.enable.getLsbD i := by
  have pending : s.journeyCause.isSome ↔ s.notice.flags &&& s.notice.enable &&& journeyClass ≠ 0#9 := by
    unfold State.journeyCause
    split
    next quiet => simp [quiet]
    next raised => simp [raised]
  rw [pending, ne_zero_iff_exists_getLsbD]
  refine exists_congr fun i => ?_
  rw [BitVec.getLsbD_and, BitVec.getLsbD_and, getLsbD_journeyClass, Bool.and_eq_true, Bool.and_eq_true,
    decide_eq_true_iff, and_comm]

theorem mem_faultNumbers {i : Nat} : i ∈ [4, 5, 6, 7, 8] ↔ 4 ≤ i ∧ i < 9 := by
  simp only [List.mem_cons, List.not_mem_nil, or_false]
  omega

theorem State.faultCause_isSome_iff (s : State) :
    s.faultCause.isSome ↔ ∃ i : Fin 9, 4 ≤ i.val ∧ s.notice.flags.getLsbD i ∧ s.notice.enable.getLsbD i := by
  rw [State.faultCause, List.find?_isSome]
  simp only [mem_faultNumbers, Bool.and_eq_true, Fin.exists_iff]
  constructor
  · rintro ⟨i, ⟨fault, bound⟩, raised⟩
    exact ⟨i, bound, fault, raised⟩
  · rintro ⟨i, bound, fault, raised⟩
    exact ⟨i, ⟨fault, bound⟩, raised⟩

/-! ### What keeps the enable bits -/

@[simp] theorem State.raise_enable (s : State) (f : EventFlag) :
    (s.raise f).notice.enable = s.notice.enable := rfl

@[simp] theorem State.post_enable (s : State) (n : Fin 32) (answer : List Byte) (body : Option (List Byte)) :
    (s.post n answer body).notice.enable = s.notice.enable := by cases body <;> rfl

@[simp] theorem State.abortCell_enable (s : State) (n : Fin 32) :
    (s.abortCell n).notice.enable = s.notice.enable := by
  unfold State.abortCell
  split
  · exact State.post_enable ..
  · rfl

theorem State.foldl_abortCell_enable (cells : List (Fin 32)) (s : State) :
    (cells.foldl State.abortCell s).notice.enable = s.notice.enable := by
  induction cells generalizing s with
  | nil => rfl
  | cons n cells ih => rw [List.foldl_cons, ih, State.abortCell_enable]

@[simp] theorem State.abortTaken_enable (s : State) : s.abortTaken.notice.enable = s.notice.enable := by
  rw [State.abortTaken, State.foldl_abortCell_enable]

@[simp] theorem State.rebuildQueues_notice (s : State) : s.rebuildQueues.notice = s.notice := rfl

@[simp] theorem State.resetBlocks_enable (s : State) : s.resetBlocks.notice.enable = s.notice.enable := rfl

@[simp] theorem State.engineReset_enable (s : State) : s.engineReset.notice.enable = s.notice.enable := by
  simp [State.engineReset]

@[simp] theorem NoticeUnit.control_enable (u : NoticeUnit) (data : Word) : (u.control data).enable = u.enable := rfl

/-- No write to ENG_CONTROL reaches the enable bits, the engine reset among them (R196, R197). -/
@[simp] theorem State.writeEngControl_enable (s : State) (data : Word) (lanes : Lanes) :
    (s.writeEngControl data lanes).notice.enable = s.notice.enable := by
  unfold State.writeEngControl
  split
  · dsimp only
    split
    · rw [State.engineReset_enable, NoticeUnit.control_enable]
    · exact NoticeUnit.control_enable ..
  · rfl

/-- An event keeps the enable bits its effect leaves. -/
theorem State.event_enable (s : State) : ∃ t, s.event = .next t ∧ t.notice.enable = s.notice.enable :=
  ⟨_, rfl, rfl⟩

theorem exec_engineReset (data : Word) (lanes : Lanes) (s : State) :
    exec (.engineReset data lanes) s = (s.writeEngControl data lanes).event := rfl

theorem exec_powerOn (s : State) : exec .powerOn s = s.powerOn.event := rfl

theorem exec_engineReset_enable (s : State) (data : Word) (lanes : Lanes) :
    ∃ t, exec (.engineReset data lanes) s = .next t ∧ t.notice.enable = s.notice.enable := by
  rw [exec_engineReset, ← s.writeEngControl_enable data lanes]
  exact State.event_enable _

theorem exec_powerOn_enable (s : State) : ∃ t, exec .powerOn s = .next t ∧ t.notice.enable = 0x1FF#9 :=
  s.powerOn.event_enable

/-- Settles O8: the write bit by bit, the causes by the enable bits it leaves over the flags it keeps, and the frames of
a raised flag, an engine reset and power-on. -/
theorem eventEnableStoresSelectedLanes : Obligations.EventEnableStoresSelectedLanes := by
  refine ⟨fun s data lanes => ?_, fun s f => ⟨?_, s.raise_enable f⟩, exec_engineReset_enable, exec_powerOn_enable⟩
  · exact ⟨_, exec_eventEnableWrite s data lanes, s.settled_writeEventEnable data lanes,
      s.getLsbD_writeEventEnable data lanes, State.hostRead_eventEnable _, State.eventEnable_reserved _,
      fun i => State.getLsbD_eventEnable _ i, State.journeyCause_isSome_iff _, State.faultCause_isSome_iff _⟩
  · rw [State.flag_raise, decide_eq_true rfl, Bool.or_true]

end Sys2Proof.Machine
end

section
/-!
What a command can make of a state, said once for all commands: `exec` answers one of the states that `Run` lists, and no
other. The writes of the host port are one case, whatever name the command has (log entries 4 and 5).
-/
namespace Sys2Proof.Machine

/-! ### Host writes under their several names -/

/-- The write access that a command carries: the even address, the data and the lanes (R168). -/
def hostAccess : Instr → Option (Nat × Word × Lanes)
  | .engineReset data lanes | .answerMode data lanes | .watermark data lanes | .journeyFirst data lanes
  | .rearm data lanes => some (Config.engControlAddr, data, lanes)
  | .eventFlagsClear data lanes => some (Config.eventFlagsAddr, data, lanes)
  | .eventEnableWrite data lanes => some (Config.eventEnableAddr, data, lanes)
  | .hostWrite addr data lanes => some (evenAddress addr, data, lanes)
  | .arrival cell kind =>
    some (cellBase cell, wordOfBytes 1#8 (kind.getD 0#8), { low := true, high := kind.isSome })
  | .withdrawal cell | .release cell =>
    some (cellBase cell, wordOfBytes 0#8 0#8, { low := true, high := false })
  | .powerOn | .registerWriteIgnored _ _ _ | .mirrorWord0Read _ | .clk32Edge | .secondAdvance | .lossTimerExpiry
  | .inspect | .checkJobEnd | .checkPieceEnd | .denyLookup _ | .inspectCompletion | .depart | .arrive | .pass | .set
  | .clockSet | .serviceOpen | .serviceOpenCompletion | .serviceClose | .serviceCloseCompletion | .denyBatch | .add
  | .delete | .clear | .denyProbe | .sweepStep | .journeyBadEvent => none

/-- The effect of a write access at an even address. -/
def State.access (s : State) (a : Nat) (data : Word) (lanes : Lanes) : State :=
  if a < Config.memoryEnd then s.writeMemoryWord a data lanes else s.writeRegister a data lanes

theorem State.hostWrite_eq_access (s : State) (addr data : Word) (lanes : Lanes) :
    s.hostWrite addr data lanes = s.access (evenAddress addr) data lanes := rfl

theorem State.access_of_lt (s : State) {a : Nat} (data : Word) (lanes : Lanes) (h : a < Config.memoryEnd) :
    s.access a data lanes = s.writeMemoryWord a data lanes := if_pos h

theorem State.access_engControl (s : State) (data : Word) (lanes : Lanes) :
    s.access Config.engControlAddr data lanes = s.writeEngControl data lanes := rfl

theorem State.access_eventFlags (s : State) (data : Word) (lanes : Lanes) :
    s.access Config.eventFlagsAddr data lanes = s.clearEvents data lanes := rfl

theorem State.access_eventEnable (s : State) (data : Word) (lanes : Lanes) :
    s.access Config.eventEnableAddr data lanes = s.writeEventEnable data lanes := rfl

theorem cellBase_lt_memoryEnd (n : Fin 32) : cellBase n < Config.memoryEnd := by
  have := cellBase_le n
  simp only [Config.memoryEnd]
  omega

theorem State.access_cellBase (s : State) (n : Fin 32) (value : Byte) (kind : Option Byte) :
    s.access (cellBase n) (wordOfBytes value (kind.getD 0#8)) { low := true, high := kind.isSome } =
      s.writeCellWord n value kind :=
  s.access_of_lt _ _ (cellBase_lt_memoryEnd n)

/-- A write access reaches exchange memory, one of the three registers that take writes, or nothing (R168, R199). -/
theorem State.access_cases (s : State) (a : Nat) (data : Word) (lanes : Lanes) :
    (a < Config.memoryEnd ∧ s.access a data lanes = s.writeMemoryWord a data lanes) ∨
      (a = Config.engControlAddr ∧ s.access a data lanes = s.writeEngControl data lanes) ∨
      (a = Config.eventFlagsAddr ∧ s.access a data lanes = s.clearEvents data lanes) ∨
      (a = Config.eventEnableAddr ∧ s.access a data lanes = s.writeEventEnable data lanes) ∨
      (Config.memoryEnd ≤ a ∧ a ≠ Config.engControlAddr ∧ a ≠ Config.eventFlagsAddr ∧ a ≠ Config.eventEnableAddr ∧
        s.access a data lanes = s) := by
  by_cases hmem : a < Config.memoryEnd
  · exact .inl ⟨hmem, s.access_of_lt data lanes hmem⟩
  by_cases hcontrol : a = Config.engControlAddr
  · exact .inr (.inl ⟨hcontrol, hcontrol ▸ s.access_engControl data lanes⟩)
  by_cases hflags : a = Config.eventFlagsAddr
  · exact .inr (.inr (.inl ⟨hflags, hflags ▸ s.access_eventFlags data lanes⟩))
  by_cases henable : a = Config.eventEnableAddr
  · exact .inr (.inr (.inr (.inl ⟨henable, henable ▸ s.access_eventEnable data lanes⟩)))
  refine .inr (.inr (.inr (.inr ⟨not_lt.mp hmem, hcontrol, hflags, henable, ?_⟩)))
  rw [State.access, if_neg hmem, State.writeRegister, if_neg hcontrol, if_neg hflags, if_neg henable]

/-! ### Inversion of `exec` -/

/-- The states a command can answer with: the effect of its event with NOTE_N driven and the free units' next work begun,
each beside the condition under which the event comes about, or the state as it stands. -/
inductive Run (s : State) : Instr → State → Prop
  | absent (c : Instr) : Run s c s
  | powerOn : Run s .powerOn s.powerOn.driveNote.settled
  | access {c : Instr} {a : Nat} {data : Word} {lanes : Lanes} (hc : hostAccess c = some (a, data, lanes)) :
    Run s c (s.access a data lanes).driveNote.settled
  | ignored (reg : ReadOnlyReg) (data : Word) (lanes : Lanes) : Run s (.registerWriteIgnored reg data lanes) s.settled
  | mirrorRead (lanes : Lanes) : Run s (.mirrorWord0Read lanes) (s.readMirrorWord0 lanes).settled
  | clockEdge {c : Instr} (hc : c = .clk32Edge ∨ c = .secondAdvance) : Run s c s.clockEdge.driveNote.settled
  | loseClock (hrunning : s.clock.timebase = .running) : Run s .lossTimerExpiry s.loseClock.driveNote.settled
  | inspect {n : Fin 32} (hhead : s.intake.inspection.head? = some n) (hmay : s.mayInspect = true) :
    Run s .inspect ((s.take .inspection n).beginInspection n).driveNote.settled
  | inspectCompletion {f : Flight} {v : Verdict} (hflight : s.engine.flight = some f) (hstage : f.stage = .judged v) :
    Run s .inspectCompletion (s.completeInspection f v).driveNote.settled
  | checkJobEnd (hdue : s.check.choose.jobEndDue = true) :
    Run s .checkJobEnd s.chooseCheck.endJob.advanceDeny.driveNote
  | checkPieceEnd (hdue : s.check.choose.pieceEndDue = true) :
    Run s .checkPieceEnd s.chooseCheck.endPiece.driveNote.settled
  | engineLookup {media day : Nat} (hserves : s.deny.serves .verdictEngine = true)
      (hlookup : s.deny.engineLookup = some (media, day)) :
    Run s (.denyLookup .verdictEngine) (s.serveEngineLookup media day).driveNote.settled
  | probeLookup {media : Nat} (hserves : s.deny.serves .tableUnit = true)
      (hlookup : s.deny.probeLookup = some media) :
    Run s (.denyLookup .tableUnit) (s.serveProbe media).driveNote.settled
  | add {media reason expiry : Nat} (hedit : s.servedEdit = some (.add media reason expiry)) :
    Run s .add (s.applyAdd media reason expiry).chooseCheck.beginLookup.driveNote
  | delete {media : Nat} (hedit : s.servedEdit = some (.delete media)) :
    Run s .delete (s.applyDelete media).chooseCheck.beginLookup.driveNote
  | clear (hedit : s.servedEdit = some .clear) : Run s .clear s.applyClear.chooseCheck.beginLookup.driveNote
  | sweepStep (hserving : s.deny.choose.serving = some .sweepStep) :
    Run s .sweepStep s.applySweepStep.driveNote.settled
  | depart {n : Fin 32} (hhead : s.eventHead 1#8 = some n) : Run s .depart (s.serveDepart n).driveNote.settled
  | arrive {n : Fin 32} (hhead : s.eventHead 2#8 = some n) : Run s .arrive (s.serveArrive n).driveNote.settled
  | pass {n : Fin 32} (hhead : s.eventHead 3#8 = some n) : Run s .pass (s.servePass n).driveNote.settled
  | set {n : Fin 32} (hhead : s.eventHead 4#8 = some n) : Run s .set (s.serveSet n).driveNote.settled
  | badEvent {n : Fin 32} (hhead : s.badEventHead = some n) :
    Run s .journeyBadEvent (s.serveBadEvent n).driveNote.settled
  | clockSet {n : Fin 32} (hhead : s.journeyHead .clockSet = some n) :
    Run s .clockSet (s.serveClockSet n).driveNote.settled
  | serviceOpen {n : Fin 32} (hhead : s.tableHead .serviceOpen = some n) :
    Run s .serviceOpen (s.chooseCheck.takeOpen n).advanceDeny.driveNote
  | serviceOpenCompletion {n : Fin 32} {table entry : Nat} (hheld : s.table.held = some (n, .serviceOpen table entry true)) :
    Run s .serviceOpenCompletion (s.completeOpen n).driveNote.settled
  | serviceClose {n : Fin 32} (hhead : s.tableHead .serviceClose = some n) :
    Run s .serviceClose (s.takeClose n).driveNote.settled
  | serviceCloseCompletion {n : Fin 32} (hheld : s.table.held = some (n, .serviceClose))
      (hidle : s.engine.flight = none) :
    Run s .serviceCloseCompletion (s.completeClose n).driveNote.settled
  | denyBatch {n : Fin 32} (hhead : s.tableHead .denyBatch = some n) :
    Run s .denyBatch (s.chooseCheck.takeBatch n).advanceDeny.driveNote
  | denyProbe {n : Fin 32} (hhead : s.tableHead .denyProbe = some n) :
    Run s .denyProbe (s.takeProbe n).driveNote.settled

theorem exec_eq_of_hostAccess {c : Instr} {a : Nat} {data : Word} {lanes : Lanes}
    (hc : hostAccess c = some (a, data, lanes)) (s : State) : exec c s = (s.access a data lanes).event := by
  cases c <;> simp only [hostAccess, Option.some.injEq, Prod.mk.injEq, reduceCtorEq] at hc
  case arrival n kind =>
    obtain ⟨rfl, rfl, rfl⟩ := hc
    rw [State.access_cellBase]
    rfl
  case withdrawal n =>
    obtain ⟨rfl, rfl, rfl⟩ := hc
    exact congrArg State.event (s.access_cellBase n 0#8 none).symm
  case release n =>
    obtain ⟨rfl, rfl, rfl⟩ := hc
    exact congrArg State.event (s.access_cellBase n 0#8 none).symm
  all_goals
    obtain ⟨rfl, rfl, rfl⟩ := hc
    rfl

theorem exec_registerWriteIgnored (reg : ReadOnlyReg) (data : Word) (lanes : Lanes) (s : State) :
    exec (.registerWriteIgnored reg data lanes) s = .next s.settled := by
  cases reg <;> rfl

/-- Every command completes, in one of the states that `Run` lists. -/
theorem exec_run (c : Instr) (s : State) : ∃ t, exec c s = .next t ∧ Run s c t := by
  have absent {c : Instr} (h : exec c s = s.noEvent) : ∃ t, exec c s = .next t ∧ Run s c t := ⟨s, h, .absent c⟩
  have came {c : Instr} {t : State} (h : exec c s = .next t) (hr : Run s c t) : ∃ t, exec c s = .next t ∧ Run s c t :=
    ⟨t, h, hr⟩
  cases haccess : hostAccess c with
  | some access =>
    obtain ⟨a, data, lanes⟩ := access
    exact came (exec_eq_of_hostAccess haccess s) (.access haccess)
  | none =>
  cases c <;> simp only [hostAccess, reduceCtorEq] at haccess
  case powerOn => exact came rfl .powerOn
  case registerWriteIgnored reg data lanes =>
    exact came (exec_registerWriteIgnored reg data lanes s) (.ignored reg data lanes)
  case mirrorWord0Read lanes => exact came rfl (.mirrorRead lanes)
  case clk32Edge => exact came rfl (.clockEdge (.inl rfl))
  case secondAdvance =>
    by_cases h : s.secondDue = true
    · exact came (if_pos h) (.clockEdge (.inr rfl))
    · exact absent (if_neg h)
  case lossTimerExpiry =>
    by_cases h : s.clock.timebase = .running ∧ s.clock.lossTimer = true
    · exact came (if_pos h) (.loseClock h.1)
    · exact absent (if_neg h)
  case inspect =>
    rcases hq : s.intake.inspection with _ | ⟨n, rest⟩
    · exact absent (by simp only [exec, execInspect, hq])
    · by_cases h : s.mayInspect = true
      · exact came (by simp only [exec, execInspect, hq, if_pos h]; rfl) (.inspect (by rw [hq]; rfl) h)
      · exact absent (by simp only [exec, execInspect, hq, if_neg h])
  case inspectCompletion =>
    rcases hf : s.engine.flight with _ | f
    · exact absent (by simp only [exec, execInspectCompletion, hf])
    · rcases hs : f.stage with _ | _ | _ | v
      case judged => exact came (by simp only [exec, execInspectCompletion, hf, hs]; rfl) (.inspectCompletion hf hs)
      all_goals exact absent (by simp only [exec, execInspectCompletion, hf, hs])
  case checkJobEnd =>
    by_cases h : s.check.choose.jobEndDue = true
    · exact came (if_pos h) (.checkJobEnd h)
    · exact absent (if_neg h)
  case checkPieceEnd =>
    by_cases h : s.check.choose.pieceEndDue = true
    · exact came (if_pos h) (.checkPieceEnd h)
    · exact absent (if_neg h)
  case denyLookup who =>
    cases who with
    | verdictEngine =>
      rcases hs : s.deny.serves .verdictEngine with _ | _
      · exact absent (by simp only [exec, execDenyLookup, hs])
      · rcases hl : s.deny.engineLookup with _ | ⟨media, day⟩
        · exact absent (by simp only [exec, execDenyLookup, hs, hl])
        · exact came (by simp only [exec, execDenyLookup, hs, hl]; rfl) (.engineLookup hs hl)
    | tableUnit =>
      rcases hs : s.deny.serves .tableUnit with _ | _
      · exact absent (by simp only [exec, execDenyLookup, hs])
      · rcases hl : s.deny.probeLookup with _ | media
        · exact absent (by simp only [exec, execDenyLookup, hs, hl])
        · exact came (by simp only [exec, execDenyLookup, hs, hl]; rfl) (.probeLookup hs hl)
  case add =>
    rcases he : s.servedEdit with _ | _ | _ | _
    case some.add => exact came (by simp only [exec, execAdd, he]; rfl) (.add he)
    all_goals exact absent (by simp only [exec, execAdd, he])
  case delete =>
    rcases he : s.servedEdit with _ | _ | _ | _
    case some.delete => exact came (by simp only [exec, execDelete, he]; rfl) (.delete he)
    all_goals exact absent (by simp only [exec, execDelete, he])
  case clear =>
    rcases he : s.servedEdit with _ | _ | _ | _
    case some.clear => exact came (by simp only [exec, execClear, he]; rfl) (.clear he)
    all_goals exact absent (by simp only [exec, execClear, he])
  case sweepStep =>
    by_cases h : s.deny.choose.serving = some .sweepStep
    · exact came (if_pos h) (.sweepStep h)
    · exact absent (if_neg h)
  case depart =>
    rcases hh : s.eventHead 1#8 with _ | n
    · exact absent (by simp only [exec, execDepart, hh])
    · exact came (by simp only [exec, execDepart, hh]; rfl) (.depart hh)
  case arrive =>
    rcases hh : s.eventHead 2#8 with _ | n
    · exact absent (by simp only [exec, execArrive, hh])
    · exact came (by simp only [exec, execArrive, hh]; rfl) (.arrive hh)
  case pass =>
    rcases hh : s.eventHead 3#8 with _ | n
    · exact absent (by simp only [exec, execPass, hh])
    · exact came (by simp only [exec, execPass, hh]; rfl) (.pass hh)
  case set =>
    rcases hh : s.eventHead 4#8 with _ | n
    · exact absent (by simp only [exec, execSet, hh])
    · exact came (by simp only [exec, execSet, hh]; rfl) (.set hh)
  case journeyBadEvent =>
    rcases hh : s.badEventHead with _ | n
    · exact absent (by simp only [exec, execJourneyBadEvent, hh])
    · exact came (by simp only [exec, execJourneyBadEvent, hh]; rfl) (.badEvent hh)
  case clockSet =>
    rcases hh : s.journeyHead .clockSet with _ | n
    · exact absent (by simp only [exec, execClockSet, hh])
    · exact came (by simp only [exec, execClockSet, hh]; rfl) (.clockSet hh)
  case serviceOpen =>
    rcases hh : s.tableHead .serviceOpen with _ | n
    · exact absent (by simp only [exec, execServiceOpen, hh])
    · exact came (by simp only [exec, execServiceOpen, hh]; rfl) (.serviceOpen hh)
  case serviceOpenCompletion =>
    rcases hh : s.table.held with _ | ⟨n, ⟨table, entry, _ | _⟩ | _ | _ | _⟩
    case some.serviceOpen.true =>
      exact came (by simp only [exec, execServiceOpenCompletion, hh]; rfl) (.serviceOpenCompletion hh)
    all_goals exact absent (by simp only [exec, execServiceOpenCompletion, hh])
  case serviceClose =>
    rcases hh : s.tableHead .serviceClose with _ | n
    · exact absent (by simp only [exec, execServiceClose, hh])
    · exact came (by simp only [exec, execServiceClose, hh]; rfl) (.serviceClose hh)
  case serviceCloseCompletion =>
    rcases hh : s.table.held with _ | ⟨n, _ | _ | _ | _⟩
    case some.serviceClose =>
      rcases hf : s.engine.flight with _ | f
      · exact came (by simp only [exec, execServiceCloseCompletion, hh, hf]; rfl) (.serviceCloseCompletion hh hf)
      · exact absent (by simp only [exec, execServiceCloseCompletion, hh, hf]; rfl)
    all_goals exact absent (by simp only [exec, execServiceCloseCompletion, hh])
  case denyBatch =>
    rcases hh : s.tableHead .denyBatch with _ | n
    · exact absent (by simp only [exec, execDenyBatch, hh])
    · exact came (by simp only [exec, execDenyBatch, hh]; rfl) (.denyBatch hh)
  case denyProbe =>
    rcases hh : s.tableHead .denyProbe with _ | n
    · exact absent (by simp only [exec, execDenyProbe, hh])
    · exact came (by simp only [exec, execDenyProbe, hh]; rfl) (.denyProbe hh)

/-- The state a command answers with is one that `Run` lists. -/
theorem run_of_exec {c : Instr} {s t : State} (h : exec c s = .next t) : Run s c t := by
  obtain ⟨u, hu, hrun⟩ := exec_run c s
  rw [h] at hu
  cases hu
  exact hrun

/-- A step is a moment with no command, or runs the command at the front of the queue. -/
theorem step_cases {s t : State} (h : step s = .next t) :
    t = s.idle ∨ ∃ c rest, Run { s with pending := rest } c t := by
  unfold step at h
  split at h
  · cases h
    exact .inl rfl
  · exact .inr ⟨_, _, run_of_exec h⟩

end Sys2Proof.Machine
end

section
/-!
The frame of each operation a command is made of: one equation that names the fields the operation may write and leaves
every other field of the state as it was. A field that an operation writes in one way only is given by its value.
-/
namespace Sys2Proof.Machine

/-- A notice unit with what changes of cells and the end of an event can write of another: the counts, the FIRST latch and
the NOTE_N level (R181, R191, R194). The flags and the fields the host writes stand. -/
abbrev NoticeUnit.withCells (u v : NoticeUnit) : NoticeUnit :=
  { u with latch := v.latch, readyCount := v.readyCount, doneCount := v.doneCount, inspectDone := v.inspectDone,
           otherDone := v.otherDone, noteN := v.noteN }

/-! ### Cells -/

theorem State.setCellState_eq (s : State) (n : Fin 32) (c : CellState) : s.setCellState n c = { s with
    mem := (s.setCellState n c).mem, notice := s.notice.withCells (s.setCellState n c).notice } :=
  rfl

theorem State.take_inspection_eq (s : State) (n : Fin 32) : s.take .inspection n = { s with
    mem := (s.take .inspection n).mem
    intake := { s.intake with inspection := s.intake.inspection.tail }
    notice := s.notice.withCells (s.take .inspection n).notice } :=
  rfl

theorem State.take_journey_eq (s : State) (n : Fin 32) : s.take .journey n = { s with
    mem := (s.take .journey n).mem
    intake := { s.intake with journey := s.intake.journey.tail }
    notice := s.notice.withCells (s.take .journey n).notice } :=
  rfl

theorem State.take_table_eq (s : State) (n : Fin 32) : s.take .table n = { s with
    mem := (s.take .table n).mem
    intake := { s.intake with table := s.intake.table.tail }
    notice := s.notice.withCells (s.take .table n).notice } :=
  rfl

theorem State.post_eq (s : State) (n : Fin 32) (answer : List Byte) (body : Option (List Byte)) :
    s.post n answer body = { s with mem := (s.post n answer body).mem, notice := s.notice.withCells (s.post n answer body).notice } := by
  cases body <;> rfl

theorem State.finishTable_eq (s : State) (n : Fin 32) (answer : List Byte) : s.finishTable n answer = { s with
    mem := (s.finishTable n answer).mem
    table := { s.table with held := none }
    notice := s.notice.withCells (s.finishTable n answer).notice } :=
  rfl

theorem State.rewriteMirror_eq (s : State) : s.rewriteMirror = { s with mem := s.rewriteMirror.mem } := rfl

theorem State.post_frame (s : State) (n : Fin 32) (answer : List Byte) (body : Option (List Byte)) :
    ∃ m N, s.post n answer body = { s with mem := m, notice := s.notice.withCells N } :=
  ⟨_, _, s.post_eq n answer body⟩

/-! ### Host writes -/

theorem State.arriveCell_frame (s : State) (n : Fin 32) :
    ∃ m q F N, s.arriveCell n = { s with mem := m, intake := q, notice := { s.notice.withCells N with flags := F } } := by
  unfold State.arriveCell
  dsimp only
  split
  · rw [State.setCellState_eq]
    exact ⟨_, _, _, _, by with_reducible rfl⟩
  · obtain ⟨m, N, h⟩ := State.post_frame
      { s with intake := { s.intake with arrivalKind := s.intake.arrivalKind.set n (s.cellByte n Config.kindOffset) } }
      n [Outcome.badRequest, 0x01#8] none
    exact ⟨m, _, _, N, h⟩

theorem State.withdrawCell_frame (s : State) (n : Fin 32) :
    ∃ m q F N, s.withdrawCell n = { s with mem := m, intake := q, notice := { s.notice.withCells N with flags := F } } := by
  unfold State.withdrawCell
  rw [State.setCellState_eq]
  split <;> exact ⟨_, _, s.notice.flags, (State.setCellState _ n .empty).notice, rfl⟩

theorem State.writeStateByte_frame (s : State) (n : Fin 32) (v : Byte) :
    ∃ m q F N, s.writeStateByte n v = { s with mem := m, intake := q, notice := { s.notice.withCells N with flags := F } } := by
  unfold State.writeStateByte
  split
  · split
    · exact ⟨_, _, _, _, rfl⟩
    · split
      · exact s.arriveCell_frame n
      · exact ⟨_, _, _, _, rfl⟩
  · split
    · exact s.withdrawCell_frame n
    · split <;> exact ⟨_, _, _, _, rfl⟩
  · exact ⟨_, _, _, _, rfl⟩
  · split
    · unfold State.releaseCell
      exact ⟨_, _, s.notice.flags, (s.setCellState n .empty).notice, rfl⟩
    · exact ⟨_, _, _, _, rfl⟩

theorem State.writeByte_frame (s : State) (a : Nat) (b : Byte) :
    ∃ m q F N, s.writeByte a b = { s with mem := m, intake := q, notice := { s.notice.withCells N with flags := F } } := by
  unfold State.writeByte
  split
  · exact s.writeStateByte_frame _ b
  · split
    · exact ⟨_, _, _, _, rfl⟩
    · split <;> exact ⟨_, _, _, _, rfl⟩

theorem State.writeMemoryWord_frame (s : State) (a : Nat) (data : Word) (lanes : Lanes) :
    ∃ m q F N, s.writeMemoryWord a data lanes = { s with mem := m, intake := q, notice := { s.notice.withCells N with flags := F } } := by
  have high : ∃ m q F N, (if lanes.high then s.writeByte (a + 1) (highByte data) else s) =
      { s with mem := m, intake := q, notice := { s.notice.withCells N with flags := F } } := by
    split
    · exact s.writeByte_frame _ _
    · exact ⟨_, _, _, _, rfl⟩
  obtain ⟨m, q, F, N, h⟩ := high
  unfold State.writeMemoryWord
  dsimp only
  rw [h]
  split
  · exact State.writeByte_frame { s with mem := m, intake := q, notice := { s.notice.withCells N with flags := F } } _ _
  · exact ⟨_, _, _, _, rfl⟩

theorem State.abortCell_frame (s : State) (n : Fin 32) :
    ∃ m N, s.abortCell n = { s with mem := m, notice := s.notice.withCells N } := by
  unfold State.abortCell
  split
  · exact s.post_frame ..
  · exact ⟨_, _, rfl⟩

theorem State.foldl_abortCell_frame (cells : List (Fin 32)) (s : State) :
    ∃ m N, cells.foldl State.abortCell s = { s with mem := m, notice := s.notice.withCells N } := by
  induction cells generalizing s with
  | nil => exact ⟨_, _, rfl⟩
  | cons n cells ih =>
    obtain ⟨m, N, h⟩ := s.abortCell_frame n
    rw [List.foldl_cons, h]
    exact ih { s with mem := m, notice := s.notice.withCells N }

theorem State.abortTaken_frame (s : State) : ∃ m N, s.abortTaken = { s with mem := m, notice := s.notice.withCells N } :=
  State.foldl_abortCell_frame ..

theorem State.engineReset_frame (s : State) : ∃ m inspection journeys table, ∃ N : NoticeUnit, s.engineReset = { s with
    mem := m
    intake := { s.intake with inspection := inspection, journey := journeys, table := table }
    engine := State.reset.engine
    journey := State.reset.journey
    table := State.reset.table
    rounds := []
    deny := { State.reset.deny with list := s.deny.list }
    check := State.reset.check
    notice := { s.notice.withCells N with flags := 0#9, latch := none } } := by
  obtain ⟨m, N, h⟩ := s.abortTaken_frame
  unfold State.engineReset
  rw [h]
  exact ⟨_, _, _, _, _, rfl⟩

/-! ### The clock -/

theorem State.advanceSecond_frame (s : State) : ∃ m c d F, s.advanceSecond =
    { s with mem := m, clock := c, deny := d, notice := { s.notice with flags := F } } := by
  unfold State.advanceSecond
  dsimp only
  split
  · exact ⟨_, _, _, _, rfl⟩
  · unfold State.advanceMinute
    split
    · exact ⟨_, _, _, _, rfl⟩
    · unfold State.advanceDay
      split <;> exact ⟨_, _, _, _, rfl⟩

theorem State.clockEdge_frame (s : State) : ∃ m c d F, s.clockEdge =
    { s with mem := m, clock := c, deny := d, notice := { s.notice with flags := F } } := by
  unfold State.clockEdge
  split
  · exact ⟨_, _, _, _, rfl⟩
  · exact State.advanceSecond_frame { s with clock := { s.clock.driven with subSecond := 0 } }

theorem State.loseClock_frame (s : State) : ∃ m F, s.loseClock = { s with
    mem := m
    clock := { s.clock with timebase := .lost, valid := false, lossTimer := false }
    notice := { s.notice with flags := F } } :=
  ⟨_, _, rfl⟩

theorem State.setClock_frame (s : State) (r : ClockRequest) : ∃ m F, s.setClock r = { s with
    mem := m
    clock := { day := r.day, minute := r.minute, second := r.second, subSecond := 0, valid := true,
               timebase := .running, lossTimer := true }
    deny := if s.clock.day < r.day then s.deny.dayChange r.day else s.deny
    notice := { s.notice with flags := F } } := by
  unfold State.setClock
  by_cases h : s.clock.day < r.day
  · simp only [decide_eq_true h, if_pos h, if_true]
    exact ⟨_, _, rfl⟩
  · simp only [decide_eq_false h, if_neg h, Bool.false_eq_true, if_false]
    exact ⟨_, _, rfl⟩

/-! ### The verdict engine -/

theorem State.fillCapture_frame (s : State) (f : Flight) (v : Verdict) (amount : Nat) : ∃ r F,
    s.fillCapture f v amount =
      { s with journey := { s.journey with capture := r }, notice := { s.notice with flags := F } } := by
  unfold State.fillCapture
  split <;> exact ⟨_, _, rfl⟩

theorem State.completeInspection_frame (s : State) (f : Flight) (v : Verdict) : ∃ m r l F N,
    s.completeInspection f v = { s with
      mem := m
      engine := { flight := none, counter := if v.marks then f.sequence else s.engine.counter }
      journey := { s.journey with capture := r }
      rounds := l
      notice := { s.notice.withCells N with flags := F } } := by
  unfold State.completeInspection
  dsimp only
  generalize hl : s.completedRounds .. = l
  generalize s.mem.amount .. = amount
  obtain ⟨r, F, h⟩ := State.fillCapture_frame { s with rounds := l.1 } f v amount
  rw [h]
  dsimp only
  generalize f.answer .. = answer
  obtain ⟨m, N, h'⟩ := State.post_frame { s with
    engine := { flight := none, counter := if v.marks then f.sequence else s.engine.counter }
    journey := { s.journey with capture := r }, rounds := l.1, notice := { s.notice with flags := F } } f.cell answer
    f.image
  rw [h']
  exact ⟨_, _, _, _, _, rfl⟩

theorem State.serveEngineLookup_frame (s : State) (media day : Nat) : ∃ f l run,
    s.serveEngineLookup media day = { s with
      engine := { s.engine with flight := f }
      rounds := l
      check := { s.check with engineJob := run }
      deny := DenyUnit.complete { s.deny with engineLookup := none } } := by
  unfold State.serveEngineLookup
  dsimp only
  split
  next f hf =>
    split
    · obtain ⟨g, -, -, h⟩ := State.afterDenyLookup_spec { s with deny := { s.deny with engineLookup := none } } f
        (denyHit s.deny.list media day)
      rw [h]
      exact ⟨_, _, _, rfl⟩
    · exact ⟨_, _, _, rfl⟩
  next => exact ⟨_, _, _, rfl⟩

/-! ### The check unit -/

theorem State.endPiece_frame (s : State) : ∃ u, s.endPiece = { s with check := u } := by
  unfold State.endPiece
  split <;> exact ⟨_, rfl⟩

/-! ### The table unit -/

theorem State.failOpen_frame (s : State) (n : Fin 32) (table : Nat) (detail : Byte) (entry : Nat) : ∃ m N,
    s.failOpen n table detail entry =
      { s with mem := m, table := { service := .noService, held := none }, notice := s.notice.withCells N } := by
  unfold State.failOpen State.enterService
  rw [State.finishTable_eq, State.rewriteMirror_eq]
  exact ⟨_, _, by with_reducible rfl⟩

theorem State.openResidue_frame (s : State) (n : Fin 32) (table : Nat) (residue : Word) : ∃ m u j N,
    s.openResidue n table residue =
      { s with mem := m, table := u, check := { s.check with tableJob := j }, notice := s.notice.withCells N } := by
  have failed (detail : Byte) (entry table : Nat) : ∃ m u j N, s.failOpen n table detail entry =
      { s with mem := m, table := u, check := { s.check with tableJob := j }, notice := s.notice.withCells N } := by
    obtain ⟨m, N, h⟩ := s.failOpen_frame n table detail entry
    exact ⟨m, _, _, N, h⟩
  unfold State.openResidue
  split
  · exact failed ..
  · split
    · exact ⟨_, _, _, _, rfl⟩
    · split
      · exact failed ..
      · exact ⟨_, _, _, _, rfl⟩

theorem State.finishBatch_frame (s : State) (n : Fin 32) (r : Byte × Byte) (applied stopping : Nat) : ∃ m h e N,
    s.finishBatch n r applied stopping = { s with
      mem := m, table := { s.table with held := h }, deny := { s.deny with edit := e }, notice := s.notice.withCells N } := by
  unfold State.finishBatch
  rw [State.finishTable_eq]
  exact ⟨_, _, _, _, by with_reducible rfl⟩

theorem State.continueBatch_frame (s : State) (n : Fin 32) (offset count applied : Nat) : ∃ m h e N,
    s.continueBatch n offset count applied = { s with
      mem := m, table := { s.table with held := h }, deny := { s.deny with edit := e }, notice := s.notice.withCells N } := by
  unfold State.continueBatch
  split
  · exact s.finishBatch_frame ..
  · split
    · exact s.finishBatch_frame ..
    · exact ⟨_, _, _, _, rfl⟩

theorem State.batchResidue_frame (s : State) (n : Fin 32) (offset count : Nat) (residue : Word) : ∃ m h e N,
    s.batchResidue n offset count residue = { s with
      mem := m, table := { s.table with held := h }, deny := { s.deny with edit := e }, notice := s.notice.withCells N } := by
  unfold State.batchResidue
  split
  · exact s.finishBatch_frame ..
  · exact s.continueBatch_frame ..

theorem State.tableResult_frame (s : State) (residue : Word) : ∃ m u j e N, s.tableResult residue = { s with
    mem := m, table := u, check := { s.check with tableJob := j }, deny := { s.deny with edit := e }, notice := s.notice.withCells N } := by
  unfold State.tableResult
  split
  · obtain ⟨m, u, j, N, h⟩ := s.openResidue_frame _ _ residue
    exact ⟨m, u, j, _, N, h⟩
  · obtain ⟨m, t, e, N, h⟩ := s.batchResidue_frame _ _ _ residue
    exact ⟨m, _, _, e, N, h⟩
  · exact ⟨_, _, _, _, _, rfl⟩

theorem State.endJob_frame (s : State) : ∃ m f u l e k N, s.endJob = { s with
    mem := m
    engine := { s.engine with flight := f }
    table := u
    deny := { s.deny with engineLookup := l, edit := e }
    check := k
    notice := s.notice.withCells N } := by
  unfold State.endJob
  split
  · rw [State.engineResult_spec]
    exact ⟨_, _, _, _, _, _, _, rfl⟩
  · dsimp only
    generalize s.pieceRemainder .. = residue
    obtain ⟨m, u, j, e, N, h⟩ := State.tableResult_frame
      ({ s with check := { s.check with serving := none, tableJob := none } }).chooseCheck residue
    rw [h]
    exact ⟨_, _, _, _, _, _, _, rfl⟩
  · exact ⟨_, _, _, _, _, _, _, rfl⟩

theorem State.afterEdit_frame (s : State) (applied : Bool) : ∃ m h e N, s.afterEdit applied = { s with
    mem := m, table := { s.table with held := h }, deny := { s.deny with edit := e }, notice := s.notice.withCells N } := by
  unfold State.afterEdit
  dsimp only
  split
  next n offset count i _ =>
    split
    · obtain ⟨m, h, e, N, heq⟩ :=
        State.continueBatch_frame { s with deny := { s.deny with edit := none } } n offset count (i + 1)
      rw [heq]
      exact ⟨m, h, e, N, rfl⟩
    · exact State.finishBatch_frame { s with deny := { s.deny with edit := none } } ..
  next => exact ⟨_, _, _, _, rfl⟩

theorem State.applyAdd_frame (s : State) (media reason expiry : Nat) : ∃ m h d F N, s.applyAdd media reason expiry =
    { s with mem := m, table := { s.table with held := h }, deny := d, notice := { s.notice.withCells N with flags := F } } := by
  unfold State.applyAdd
  split
  · obtain ⟨m, t, e, N, h⟩ := (s.raise .denyFull).afterEdit_frame false
    rw [h]
    exact ⟨_, _, _, _, N, rfl⟩
  · generalize denyInsert .. = l
    obtain ⟨m, t, e, N, h⟩ := (s.setDenyList l).afterEdit_frame true
    rw [h]
    exact ⟨_, _, _, s.notice.flags, N, rfl⟩

theorem State.applyDelete_frame (s : State) (media : Nat) : ∃ m h d N, s.applyDelete media =
    { s with mem := m, table := { s.table with held := h }, deny := d, notice := s.notice.withCells N } := by
  unfold State.applyDelete
  obtain ⟨m, t, e, N, h⟩ := (s.setDenyList (denyRemove s.deny.list media)).afterEdit_frame true
  rw [h]
  exact ⟨_, _, _, N, rfl⟩

theorem State.applyClear_frame (s : State) : ∃ m h d N, s.applyClear =
    { s with mem := m, table := { s.table with held := h }, deny := d, notice := s.notice.withCells N } := by
  unfold State.applyClear
  obtain ⟨m, t, e, N, h⟩ := (s.setDenyList []).afterEdit_frame true
  rw [h]
  exact ⟨_, _, _, N, rfl⟩

theorem State.applySweepStep_frame (s : State) :
    ∃ m, s.applySweepStep = { s with mem := m, deny := s.deny.sweepOnce.complete } :=
  ⟨_, rfl⟩

theorem State.serveProbe_frame (s : State) (media : Nat) : ∃ m h N, s.serveProbe media = { s with
    mem := m
    table := { s.table with held := h }
    deny := DenyUnit.complete { s.deny with probeLookup := none }
    notice := s.notice.withCells N } := by
  unfold State.serveProbe State.completeDeny
  dsimp only
  split
  · rw [State.finishTable_eq]
    exact ⟨_, _, _, by with_reducible rfl⟩
  · exact ⟨_, _, _, rfl⟩

theorem State.takeOpen_frame (s : State) (n : Fin 32) : ∃ m u j N, s.takeOpen n = { s with
    mem := m
    intake := { s.intake with table := s.intake.table.tail }
    table := u
    check := { s.check with tableJob := j }
    notice := s.notice.withCells N } := by
  have refused (detail : Byte) : ∃ m u j N, s.refuseOpen n detail = { s with
      mem := m, intake := { s.intake with table := s.intake.table.tail }, table := u
      check := { s.check with tableJob := j }, notice := s.notice.withCells N } := by
    unfold State.refuseOpen
    rw [State.finishTable_eq, State.take_table_eq]
    exact ⟨_, _, _, _, by with_reducible rfl⟩
  unfold State.takeOpen
  split
  · exact refused _
  · split
    · exact refused _
    · unfold State.enterService
      rw [State.rewriteMirror_eq, State.take_table_eq]
      exact ⟨_, _, _, _, rfl⟩

theorem State.completeOpen_frame (s : State) (n : Fin 32) : ∃ m F N, s.completeOpen n = { s with
    mem := m
    engine := { s.engine with counter := 0 }
    journey := { s.journey with
      kind := .atStop, stop := s.mem.header.origin, round := 1
      serviceDay := serviceDayOf s.clock.day s.clock.minute s.mem.header.dayChange, capture := none }
    table := { service := .inService, held := none }
    rounds := []
    notice := { s.notice.withCells N with flags := F } } := by
  unfold State.completeOpen State.enterService
  rw [State.finishTable_eq, State.rewriteMirror_eq]
  generalize (State.finishTable _ n _).notice = N
  exact ⟨_, _, N, rfl⟩

theorem State.completeClose_frame (s : State) (n : Fin 32) : ∃ m F N, s.completeClose n = { s with
    mem := m
    journey := { s.journey with kind := .nowhere, stop := 0, round := 0, serviceDay := 0, capture := none }
    table := { service := .noService, held := none }
    rounds := []
    notice := { s.notice.withCells N with flags := F } } := by
  unfold State.completeClose State.enterService
  rw [State.finishTable_eq, State.rewriteMirror_eq]
  generalize (State.finishTable _ n _).notice = N
  exact ⟨_, _, N, rfl⟩

theorem State.takeClose_frame (s : State) (n : Fin 32) : ∃ m j u l F N, s.takeClose n = { s with
    mem := m
    intake := { s.intake with table := s.intake.table.tail }
    journey := j
    table := u
    rounds := l
    notice := { s.notice.withCells N with flags := F } } := by
  have closed : ∃ m j u l F N, (s.take .table n).completeClose n = { s with
      mem := m, intake := { s.intake with table := s.intake.table.tail }, journey := j, table := u, rounds := l
      notice := { s.notice.withCells N with flags := F } } := by
    obtain ⟨m, F, N, h⟩ := (s.take .table n).completeClose_frame n
    rw [h, State.take_table_eq]
    exact ⟨_, _, _, _, _, _, by with_reducible rfl⟩
  have held : ∃ m j u l F N, (s.take .table n).hold n .serviceClose = { s with
      mem := m, intake := { s.intake with table := s.intake.table.tail }, journey := j, table := u, rounds := l
      notice := { s.notice.withCells N with flags := F } } := by
    rw [State.take_table_eq]
    exact ⟨_, _, _, _, s.notice.flags, (s.take .table n).notice, rfl⟩
  have answered (answer : List Byte) : ∃ m j u l F N, (s.take .table n).finishTable n answer = { s with
      mem := m, intake := { s.intake with table := s.intake.table.tail }, journey := j, table := u, rounds := l
      notice := { s.notice.withCells N with flags := F } } := by
    rw [State.finishTable_eq, State.take_table_eq]
    generalize (State.finishTable _ n _).notice = N
    exact ⟨_, _, _, _, s.notice.flags, N, rfl⟩
  unfold State.takeClose
  split
  · exact answered _
  · exact answered _
  all_goals
    split
    · exact closed
    · exact held

theorem State.takeBatch_frame (s : State) (n : Fin 32) : ∃ m h j N, s.takeBatch n = { s with
    mem := m
    intake := { s.intake with table := s.intake.table.tail }
    table := { s.table with held := h }
    check := { s.check with tableJob := j }
    notice := s.notice.withCells N } := by
  unfold State.takeBatch
  dsimp only
  split
  · unfold State.finishBatch
    rw [State.finishTable_eq, State.take_table_eq]
    exact ⟨_, _, _, _, by with_reducible rfl⟩
  · rw [State.take_table_eq]
    exact ⟨_, _, _, _, rfl⟩

theorem State.takeProbe_frame (s : State) (n : Fin 32) : ∃ m N, s.takeProbe n = { s with
    mem := m
    intake := { s.intake with table := s.intake.table.tail }
    table := { s.table with held := some (n, .denyProbe) }
    deny := { s.deny with probeLookup := some (s.probeMedia n) }
    notice := s.notice.withCells N } := by
  unfold State.takeProbe
  dsimp only
  rw [State.take_table_eq]
  exact ⟨_, _, rfl⟩

/-! ### The journey unit -/

theorem State.refuseJourney_frame (s : State) (n : Fin 32) (r : Reply) : ∃ m N, s.refuseJourney n r =
    { s with mem := m, intake := { s.intake with journey := s.intake.journey.tail }, notice := s.notice.withCells N } := by
  unfold State.refuseJourney State.answerJourney
  rw [State.post_eq, State.take_journey_eq]
  exact ⟨_, _, by with_reducible rfl⟩

theorem State.serveBadEvent_frame (s : State) (n : Fin 32) : ∃ m N, s.serveBadEvent n =
    { s with mem := m, intake := { s.intake with journey := s.intake.journey.tail }, notice := s.notice.withCells N } := by
  exact s.refuseJourney_frame ..

theorem State.serveDepart_frame (s : State) (n : Fin 32) : ∃ m k N, s.serveDepart n = { s with
    mem := m
    intake := { s.intake with journey := s.intake.journey.tail }
    journey := { s.journey with kind := k }
    notice := s.notice.withCells N } := by
  unfold State.serveDepart
  split
  · obtain ⟨m, N, h⟩ := s.refuseJourney_frame n ‹_›
    exact ⟨m, _, N, h⟩
  · dsimp only
    unfold State.answerJourney
    split
    · rw [State.post_eq, State.take_journey_eq]
      exact ⟨_, _, _, by with_reducible rfl⟩
    · rw [State.post_eq, State.rewriteMirror_eq, State.take_journey_eq]
      exact ⟨_, _, _, by with_reducible rfl⟩

theorem State.arriveAt_frame (s : State) (target : Nat) : ∃ m r cap v l F, s.arriveAt target = { s with
    mem := m
    journey := { s.journey with kind := .atStop, stop := target, round := r, capture := cap }
    table := { s.table with service := v }
    rounds := l
    notice := { s.notice with flags := F } } := by
  unfold State.arriveAt
  dsimp only
  rw [State.rewriteMirror_eq, State.boundaries_spec]
  by_cases h : target = s.mem.header.terminus
  · simp only [State.raise_mem, if_pos h]
    exact ⟨_, _, _, _, _, _, rfl⟩
  · simp only [State.raise_mem, if_neg h]
    exact ⟨_, _, _, _, _, _, rfl⟩

theorem State.serveArrive_frame (s : State) (n : Fin 32) : ∃ m k p r cap v l F N, s.serveArrive n = { s with
    mem := m
    intake := { s.intake with journey := s.intake.journey.tail }
    journey := { s.journey with kind := k, stop := p, round := r, capture := cap }
    table := { s.table with service := v }
    rounds := l
    notice := { s.notice.withCells N with flags := F } } := by
  unfold State.serveArrive
  split
  · obtain ⟨m, N, h⟩ := s.refuseJourney_frame n ‹_›
    exact ⟨m, _, _, _, _, _, _, _, N, h⟩
  · dsimp only
    obtain ⟨m, r, cap, v, l, F, h⟩ := (s.take .journey n).arriveAt_frame (s.arriveTarget n)
    unfold State.answerJourney
    rw [State.post_eq, h, State.take_journey_eq]
    exact ⟨_, _, _, _, _, _, _, _, _, by with_reducible rfl⟩

theorem State.passNext_frame (s : State) : ∃ m r cap l F, s.passNext = { s with
    mem := m
    journey := { s.journey with stop := s.mem.header.next s.journey.stop, round := r, capture := cap }
    rounds := l
    notice := { s.notice with flags := F } } := by
  unfold State.passNext
  dsimp only
  rw [State.rewriteMirror_eq, State.boundaries_spec]
  exact ⟨_, _, _, _, _, rfl⟩

theorem State.servePass_frame (s : State) (n : Fin 32) : ∃ m p r cap l F N, s.servePass n = { s with
    mem := m
    intake := { s.intake with journey := s.intake.journey.tail }
    journey := { s.journey with stop := p, round := r, capture := cap }
    rounds := l
    notice := { s.notice.withCells N with flags := F } } := by
  unfold State.servePass
  split
  · obtain ⟨m, N, h⟩ := s.refuseJourney_frame n ‹_›
    exact ⟨m, _, _, _, _, _, N, h⟩
  · obtain ⟨m, r, cap, l, F, h⟩ := (s.take .journey n).passNext_frame
    unfold State.answerJourney
    rw [State.post_eq, h, State.take_journey_eq]
    exact ⟨_, _, _, _, _, _, _, by with_reducible rfl⟩

theorem State.setPosition_frame (s : State) (stop : Nat) (kind : PosKind) : ∃ m v F, s.setPosition stop kind = { s with
    mem := m
    journey := { s.journey with kind := kind, stop := stop }
    table := { s.table with service := v }
    notice := { s.notice with flags := F } } := by
  unfold State.setPosition
  dsimp only
  rw [State.rewriteMirror_eq]
  split <;> exact ⟨_, _, _, rfl⟩

theorem State.serveSet_frame (s : State) (n : Fin 32) : ∃ m k p v F N, s.serveSet n = { s with
    mem := m
    intake := { s.intake with journey := s.intake.journey.tail }
    journey := { s.journey with kind := k, stop := p }
    table := { s.table with service := v }
    notice := { s.notice.withCells N with flags := F } } := by
  have refused (r : Reply) : ∃ m k p v F N, s.refuseJourney n r = { s with
      mem := m, intake := { s.intake with journey := s.intake.journey.tail }
      journey := { s.journey with kind := k, stop := p }, table := { s.table with service := v }, notice := { s.notice.withCells N with flags := F } } := by
    obtain ⟨m, N, h⟩ := s.refuseJourney_frame n r
    exact ⟨m, _, _, _, _, N, h⟩
  unfold State.serveSet
  split
  · exact refused _
  · exact refused _
  next stop kind _ _ =>
    obtain ⟨m, v, F, h⟩ := (s.take .journey n).setPosition_frame stop kind
    unfold State.answerJourney
    rw [State.post_eq, h, State.take_journey_eq]
    exact ⟨_, _, _, _, _, _, by with_reducible rfl⟩

theorem State.serveClockSet_frame (s : State) (n : Fin 32) : ∃ m c d F N, s.serveClockSet n = { s with
    mem := m
    intake := { s.intake with journey := s.intake.journey.tail }
    clock := c
    deny := d
    notice := { s.notice.withCells N with flags := F } } := by
  unfold State.serveClockSet
  dsimp only
  split
  · rw [State.post_eq, State.take_journey_eq]
    exact ⟨_, _, _, _, _, by with_reducible rfl⟩
  · obtain ⟨m, F, h⟩ := (s.take .journey n).setClock_frame (s.clockRequest n)
    rw [State.post_eq, h, State.take_journey_eq]
    exact ⟨_, _, _, _, _, by with_reducible rfl⟩

end Sys2Proof.Machine
end

section
/-!
What the host's accesses are and what journey events make of the journey unit, in equations; the end of an event and the
unit's choice of work in the same form.
-/
namespace Sys2Proof.Machine

/-! ### What kind of command an access is -/

/-- The command resets the engine exactly when its access writes ENGINE_RESET 1 to ENG_CONTROL (R185). -/
theorem resets_of_hostAccess {c : Instr} {a : Nat} {data : Word} {lanes : Lanes}
    (hc : hostAccess c = some (a, data, lanes)) :
    c.resets = (decide (a = Config.engControlAddr) && resetWrite data lanes) := by
  have cell (n : Fin 32) : cellBase n ≠ Config.engControlAddr := by
    have := cellBase_le n
    simp only [Config.engControlAddr]
    omega
  cases c <;> simp only [hostAccess, Option.some.injEq, Prod.mk.injEq, reduceCtorEq] at hc <;>
    obtain ⟨rfl, rfl, rfl⟩ := hc <;> simp [Instr.resets, cell, Config.engControlAddr, Config.eventFlagsAddr, Config.eventEnableAddr]

/-- The command clears a flag exactly when its access writes a 1 to the flag's bit of EVENT_FLAGS (R188). -/
theorem clearsFlag_of_hostAccess {c : Instr} {a : Nat} {data : Word} {lanes : Lanes}
    (hc : hostAccess c = some (a, data, lanes)) (k : Nat) :
    c.clearsFlag k = (decide (a = Config.eventFlagsAddr) && (laneFlags data lanes).getLsbD k) := by
  have cell (n : Fin 32) : cellBase n ≠ Config.eventFlagsAddr := by
    have := cellBase_le n
    simp only [Config.eventFlagsAddr]
    omega
  cases c <;> simp only [hostAccess, Option.some.injEq, Prod.mk.injEq, reduceCtorEq] at hc <;>
    obtain ⟨rfl, rfl, rfl⟩ := hc <;>
    simp [Instr.clearsFlag, cell, Config.engControlAddr, Config.eventFlagsAddr, Config.eventEnableAddr]

/-- The command writes a state byte exactly when its access reaches the even byte of a cell's word 0 (R173). -/
theorem writesStateByte_of_hostAccess {c : Instr} {a : Nat} {data : Word} {lanes : Lanes}
    (hc : hostAccess c = some (a, data, lanes)) :
    c.writesStateByte = (lanes.low && decide (a < Config.mirrorBase ∧ a % Config.cellSize = 0)) := by
  have cell (n : Fin 32) : cellBase n < Config.mirrorBase ∧ cellBase n % Config.cellSize = 0 := by
    have := cellBase_le n
    simp only [cellBase, Config.mirrorBase, Config.cellSize] at this ⊢
    omega
  cases c <;> simp only [hostAccess, Option.some.injEq, Prod.mk.injEq, reduceCtorEq] at hc <;>
    obtain ⟨rfl, rfl, rfl⟩ := hc <;>
    simp [Instr.writesStateByte, cell, Config.engControlAddr, Config.eventFlagsAddr, Config.eventEnableAddr,
      Config.mirrorBase]

/-- The commands whose access reaches EVENT_ENABLE. -/
theorem of_hostAccess_eventEnable {c : Instr} {data : Word} {lanes : Lanes}
    (hc : hostAccess c = some (Config.eventEnableAddr, data, lanes)) :
    (∃ data lanes, c = .eventEnableWrite data lanes) ∨
      ∃ addr data lanes, c = .hostWrite addr data lanes ∧ evenAddress addr = Config.eventEnableAddr := by
  have cell (n : Fin 32) : cellBase n ≠ Config.eventEnableAddr := by
    have := cellBase_le n
    simp only [Config.eventEnableAddr]
    omega
  cases c <;> simp only [hostAccess, Option.some.injEq, Prod.mk.injEq, reduceCtorEq] at hc
  case eventEnableWrite => exact .inl ⟨_, _, rfl⟩
  case hostWrite addr data lanes => exact .inr ⟨addr, data, lanes, rfl, hc.1⟩
  case arrival n kind => exact absurd hc.1 (cell n)
  case withdrawal n => exact absurd hc.1 (cell n)
  case release n => exact absurd hc.1 (cell n)
  all_goals simp [Config.engControlAddr, Config.eventFlagsAddr, Config.eventEnableAddr] at hc

/-- An access addresses an even byte (R168). -/
theorem even_of_hostAccess {c : Instr} {a : Nat} {data : Word} {lanes : Lanes}
    (hc : hostAccess c = some (a, data, lanes)) : a % 2 = 0 := by
  cases c <;> simp only [hostAccess, Option.some.injEq, Prod.mk.injEq, reduceCtorEq] at hc <;>
    obtain ⟨rfl, rfl, rfl⟩ := hc <;>
    simp only [cellBase, Config.cellSize, evenAddress, Config.engControlAddr, Config.eventFlagsAddr,
      Config.eventEnableAddr] <;> omega

/-- A byte that is no state byte is stored or discarded, and intake has no part in it (R182). -/
theorem State.writeByte_frame_of_plain (s : State) {a : Nat} (b : Byte)
    (ha : ¬ (a < Config.mirrorBase ∧ a % Config.cellSize = 0)) :
    ∃ m F, s.writeByte a b = { s with mem := m, notice := { s.notice with flags := F } } := by
  unfold State.writeByte
  rw [if_neg ha]
  split
  · exact ⟨_, _, rfl⟩
  · split <;> exact ⟨_, _, rfl⟩

/-- An access that selects no state byte leaves intake alone. -/
theorem State.writeMemoryWord_frame_of_plain (s : State) {a : Nat} (data : Word) {lanes : Lanes} (heven : a % 2 = 0)
    (ha : (lanes.low && decide (a < Config.mirrorBase ∧ a % Config.cellSize = 0)) = false) :
    ∃ m F, s.writeMemoryWord a data lanes = { s with mem := m, notice := { s.notice with flags := F } } := by
  have high : ∃ m F, (if lanes.high then s.writeByte (a + 1) (highByte data) else s) =
      { s with mem := m, notice := { s.notice with flags := F } } := by
    split
    · exact s.writeByte_frame_of_plain _ fun h => by simp only [Config.cellSize] at h; omega
    · exact ⟨_, _, rfl⟩
  obtain ⟨m, F, h⟩ := high
  unfold State.writeMemoryWord
  dsimp only
  rw [h]
  split
  next hlow =>
    rw [hlow, Bool.true_and, decide_eq_false_iff_not] at ha
    exact State.writeByte_frame_of_plain { s with mem := m, notice := { s.notice with flags := F } } _ ha
  next => exact ⟨_, _, rfl⟩

/-- A write to EVENT_FLAGS writes the flags, and where it re-arms the capture also that and the mirror. -/
theorem State.clearEvents_frame (s : State) (data : Word) (lanes : Lanes) : ∃ m, s.clearEvents data lanes = { s with
    mem := m
    journey := if (laneFlags data lanes).getLsbD 8 then { s.journey with capture := none } else s.journey
    notice := { s.notice with flags := s.notice.flags &&& ~~~ laneFlags data lanes } } := by
  unfold State.clearEvents
  cases h : (laneFlags data lanes).getLsbD 8 with
  | true =>
    rw [if_pos rfl, State.rewriteMirror_eq]
    generalize (State.rewriteMirror _).mem = m
    exact ⟨m, by simp only [State.writeEventFlags, h, if_true]⟩
  | false => exact ⟨s.mem, by simp only [State.writeEventFlags, h, Bool.false_eq_true, if_false]⟩

theorem State.writeEngControl_of_resetWrite (s : State) {data : Word} {lanes : Lanes} (h : resetWrite data lanes = true) :
    s.writeEngControl data lanes = { s with notice := s.notice.control data }.engineReset := by
  obtain ⟨hlow, hbit⟩ := Bool.and_eq_true_iff.mp h
  simp only [State.writeEngControl, if_pos hlow, if_pos hbit]

theorem State.writeEngControl_of_not_resetWrite (s : State) {data : Word} {lanes : Lanes}
    (h : resetWrite data lanes = false) :
    s.writeEngControl data lanes =
      { s with notice := if lanes.low then s.notice.control data else s.notice } := by
  unfold State.writeEngControl
  cases hlow : lanes.low with
  | false => rfl
  | true =>
    have hbit : data.getLsbD 0 = false := by simpa [resetWrite, hlow] using h
    simp only [hbit, if_true, Bool.false_eq_true, if_false]

/-! ### What ARRIVE and PASS make of the journey unit -/

/-- ARRIVE at a target: the position, the round with its boundaries, and the flags (R127). -/
theorem State.arriveAt_spec (s : State) (target : Nat) : ∃ m, s.arriveAt target = { s with
    mem := m
    journey := { s.journey with
      kind := .atStop
      stop := target
      round := s.journey.round + s.mem.boundaryCount (s.arrivePath target)
      capture := if s.mem.boundaryCount (s.arrivePath target) = 0 then s.journey.capture else none }
    table := { s.table with service := if target = s.mem.header.terminus then .terminated else s.table.service }
    rounds := if s.mem.boundaryCount (s.arrivePath target) = 0 then s.rounds else []
    notice := { s.notice with flags :=
      ((if s.mem.boundaryCount (s.arrivePath target) = 0 then s.notice.flags
        else (s.notice.flags &&& ~~~ EventFlag.firstFault.bit) ||| EventFlag.boundary.bit) |||
        EventFlag.stopReached.bit) ||| (if target = s.mem.header.terminus then EventFlag.terminus.bit else 0#9) } } := by
  unfold State.arriveAt
  dsimp only
  rw [State.rewriteMirror_eq, State.boundaries_spec]
  by_cases h : target = s.mem.header.terminus
  · simp only [State.raise_mem, if_pos h]
    exact ⟨_, rfl⟩
  · simp only [State.raise_mem, if_neg h, BitVec.or_zero]
    exact ⟨_, rfl⟩

/-- PASS to the next section: the stop, and the round with the boundary of the stop passed (R128). -/
theorem State.passNext_spec (s : State) : ∃ m, s.passNext = { s with
    mem := m
    journey := { s.journey with
      stop := s.mem.header.next s.journey.stop,
      round := s.journey.round + s.mem.boundaryCount [s.mem.header.next s.journey.stop]
      capture := if s.mem.boundaryCount [s.mem.header.next s.journey.stop] = 0 then s.journey.capture else none }
    rounds := if s.mem.boundaryCount [s.mem.header.next s.journey.stop] = 0 then s.rounds else []
    notice := { s.notice with
      flags := if s.mem.boundaryCount [s.mem.header.next s.journey.stop] = 0 then s.notice.flags
        else (s.notice.flags &&& ~~~ EventFlag.firstFault.bit) ||| EventFlag.boundary.bit } } := by
  unfold State.passNext
  dsimp only
  rw [State.rewriteMirror_eq, State.boundaries_spec]
  exact ⟨_, rfl⟩

theorem State.serveArrive_of_refused {s : State} {n : Fin 32} {r : Reply}
    (h : (stateRefusal s.table.service).or (s.arriveFault n) = some r) : s.serveArrive n = s.refuseJourney n r := by
  simp only [State.serveArrive, h]

theorem State.serveArrive_of_accepted {s : State} {n : Fin 32}
    (h : (stateRefusal s.table.service).or (s.arriveFault n) = none) :
    s.serveArrive n = ((s.take .journey n).arriveAt (s.arriveTarget n)).answerJourney n (Outcome.done, 0#8)
      (s.mem.boundaryCount (s.arrivePath (s.arriveTarget n))) := by
  simp only [State.serveArrive, h]

theorem State.servePass_of_refused {s : State} {n : Fin 32} {r : Reply}
    (h : (stateRefusal s.table.service).or s.passFault = some r) : s.servePass n = s.refuseJourney n r := by
  simp only [State.servePass, h]

theorem State.servePass_of_accepted {s : State} {n : Fin 32}
    (h : (stateRefusal s.table.service).or s.passFault = none) :
    s.servePass n = ((s.take .journey n).passNext).answerJourney n (Outcome.done, 0#8)
      (s.mem.boundaryCount [s.mem.header.next s.journey.stop]) := by
  simp only [State.servePass, h]

/-- An accepted request finds the service IN_SERVICE. -/
theorem stateRefusal_eq_none {v : ServiceState} : stateRefusal v = none ↔ v = .inService := by
  cases v <;> simp [stateRefusal]

/-- A cell's state byte is none of the addresses from the mirror up. -/
theorem cellBase_ne_of_le (n : Fin 32) {a : Nat} (ha : Config.mirrorBase ≤ a) : a ≠ cellBase n := by
  have := cellBase_lt n
  simp only [Config.cellSize] at this
  omega

/-- A take changes no byte from the mirror up. -/
theorem State.take_read_of_le (s : State) (q : QueueId) (n : Fin 32) {a : Nat} (ha : Config.mirrorBase ≤ a) :
    (s.take q n).mem.read a = s.mem.read a :=
  Memory.read_write_of_ne _ _ (cellBase_ne_of_le n ha)

/-- Memory that agrees on the first sixteen bytes of the context region holds the same header. -/
theorem Memory.header_congr {m m' : Memory} (h : ∀ a, 0x1000 ≤ a → a < 0x1010 → m'.read a = m.read a) :
    m'.header = m.header := by
  have wide (a : Nat) (h₁ : 0x1000 ≤ a) (h₂ : a + 1 < 0x1010) : m'.read16 a = m.read16 a :=
    congrArg leValue (Memory.readList_congr fun x hx hx' => h x (by omega) (by omega))
  simp only [Memory.header, wide 0x1000 (by omega) (by omega), wide 0x1005 (by omega) (by omega),
    wide 0x1009 (by omega) (by omega), wide 0x100B (by omega) (by omega), h 0x1002 (by omega) (by omega),
    h 0x1003 (by omega) (by omega), h 0x1004 (by omega) (by omega), h 0x1007 (by omega) (by omega),
    h 0x1008 (by omega) (by omega), h 0x100D (by omega) (by omega)]

/-- Memory that agrees from the context region up holds the same route table. -/
theorem Memory.route_congr {m m' : Memory} (h : ∀ a, 0x1000 ≤ a → m'.read a = m.read a) (j : Nat) :
    m'.route j = m.route j := by
  have wide : m'.read16 (Config.routeBase + 4 * j) = m.read16 (Config.routeBase + 4 * j) :=
    congrArg leValue (Memory.readList_congr fun x hx _ => h x (by simp only [Config.routeBase] at hx; omega))
  simp only [Memory.route]
  rw [wide, h _ (by simp only [Config.routeBase]; omega), h _ (by simp only [Config.routeBase]; omega)]

theorem Memory.boundaryCount_congr {m m' : Memory} (h : ∀ a, 0x1000 ≤ a → m'.read a = m.read a) (stops : List Nat) :
    m'.boundaryCount stops = m.boundaryCount stops := by
  simp only [Memory.boundaryCount, Memory.isBoundary, Memory.route_congr h]

/-- A take leaves the service tables as they are. -/
theorem State.take_header (s : State) (q : QueueId) (n : Fin 32) : (s.take q n).mem.header = s.mem.header :=
  Memory.header_congr fun a ha _ => s.take_read_of_le q n (by simp only [Config.mirrorBase]; omega)

theorem State.take_boundaryCount (s : State) (q : QueueId) (n : Fin 32) (stops : List Nat) :
    (s.take q n).mem.boundaryCount stops = s.mem.boundaryCount stops :=
  Memory.boundaryCount_congr (fun a ha => s.take_read_of_le q n (by simp only [Config.mirrorBase]; omega)) stops

theorem State.take_arrivePath (s : State) (q : QueueId) (n : Fin 32) (target : Nat) :
    (s.take q n).arrivePath target = s.arrivePath target := by
  simp only [State.arrivePath, State.take_header, State.take_journey]

end Sys2Proof.Machine
end

section
/-!
Whose state each field is: what every command leaves as it was, said of all commands at once, and the flags a command can
clear (R187, R188). With it the queue of commands, power-on and the reset state.
-/
namespace Sys2Proof.Machine

/-! ### The deny list unit's own steps and the list -/

@[simp] theorem DenyUnit.complete_list (u : DenyUnit) : u.complete.list = u.list := by rw [DenyUnit.complete_spec]

@[simp] theorem DenyUnit.dayChange_list (u : DenyUnit) (day : Nat) : (u.dayChange day).list = u.list := by
  rw [DenyUnit.dayChange_spec]

@[simp] theorem DenyUnit.beginLookup_list (u : DenyUnit) : u.beginLookup.list = u.list := rfl

/-- A clock edge reaches the deny list unit only as a DAY_CHANGE (R67). -/
theorem State.clockEdge_deny (s : State) :
    s.clockEdge.deny = s.deny ∨ ∃ day, s.clockEdge.deny = s.deny.dayChange day := by
  unfold State.clockEdge
  split
  · exact .inl rfl
  · rw [State.advanceSecond_deny]
    split
    · exact .inr ⟨_, rfl⟩
    · exact .inl rfl

/-- A CLOCK-SET reaches the deny list unit only as a DAY_CHANGE (R72). -/
theorem State.serveClockSet_deny (s : State) (n : Fin 32) :
    (s.serveClockSet n).deny = s.deny ∨ ∃ day, (s.serveClockSet n).deny = s.deny.dayChange day := by
  unfold State.serveClockSet
  dsimp only
  split
  · exact .inl (by rw [State.post_deny, State.take_deny])
  · obtain ⟨m, F, h⟩ := (s.take .journey n).setClock_frame (s.clockRequest n)
    rw [State.post_deny, h]
    dsimp only
    split
    · exact .inr ⟨_, by rw [State.take_deny]⟩
    · exact .inl (by rw [State.take_deny])

/-! ### Ownership -/

/-- Each block's lasting state changes by its own commands alone: field by field, `t` holds what `s` does or the command is
one of those listed. -/
structure Owned (c : Instr) (s t : State) : Prop where
  pending : t.pending = s.pending
  clock : t.clock = s.clock ∨ c ∈ [.clk32Edge, .secondAdvance, .lossTimerExpiry, .clockSet, .powerOn]
  denyList : t.deny.list = s.deny.list ∨ c ∈ [.add, .delete, .clear, .sweepStep, .powerOn]
  counter : t.engine.counter = s.engine.counter ∨
    c = .inspectCompletion ∨ c = .serviceOpenCompletion ∨ c.resets = true
  enable : t.notice.enable = s.notice.enable ∨ c = .powerOn ∨ (∃ data lanes, c = .eventEnableWrite data lanes) ∨
    ∃ addr data lanes, c = .hostWrite addr data lanes ∧ evenAddress addr = Config.eventEnableAddr
  rounds : t.rounds = s.rounds ∨ c.resets = true ∨ c ∈ [.denyLookup .verdictEngine, .inspectCompletion, .arrive, .pass,
    .serviceOpenCompletion, .serviceClose, .serviceCloseCompletion]
  capture : t.journey.capture = s.journey.capture ∨ c.resets = true ∨ c.clearsFlag 8 = true ∨ c ∈ [.inspectCompletion,
    .arrive, .pass, .serviceOpenCompletion, .serviceClose, .serviceCloseCompletion]
  kind : t.journey.kind = s.journey.kind ∨ c.resets = true ∨ c ∈ [.depart, .arrive, .pass, .set,
    .serviceOpenCompletion, .serviceClose, .serviceCloseCompletion]
  stop : t.journey.stop = s.journey.stop ∨ c.resets = true ∨ c ∈ [.depart, .arrive, .pass, .set,
    .serviceOpenCompletion, .serviceClose, .serviceCloseCompletion]
  round : t.journey.round = s.journey.round ∨ c.resets = true ∨
    c ∈ [.arrive, .pass, .serviceOpenCompletion, .serviceClose, .serviceCloseCompletion]
  serviceDay : t.journey.serviceDay = s.journey.serviceDay ∨ c.resets = true ∨
    c ∈ [.serviceOpenCompletion, .serviceClose, .serviceCloseCompletion]
  inspection : t.intake.inspection = s.intake.inspection ∨ c.resets = true ∨ c.writesStateByte = true ∨ c = .inspect
  journeys : t.intake.journey = s.intake.journey ∨ c.resets = true ∨ c.writesStateByte = true ∨
    c ∈ [.depart, .arrive, .pass, .set, .journeyBadEvent, .clockSet]
  table : t.intake.table = s.intake.table ∨ c.resets = true ∨ c.writesStateByte = true ∨
    c ∈ [.serviceOpen, .serviceClose, .denyBatch, .denyProbe]

theorem Owned.refl (c : Instr) (s : State) : Owned c s s :=
  ⟨rfl, .inl rfl, .inl rfl, .inl rfl, .inl rfl, .inl rfl, .inl rfl, .inl rfl, .inl rfl, .inl rfl, .inl rfl, .inl rfl,
    .inl rfl, .inl rfl⟩

/-- The end of an event, and the beginning of the free units' next work, change no field that has an owner. -/
theorem Owned.settled {c : Instr} {s t : State} (h : Owned c s t) : Owned c s t.settled := by
  obtain ⟨h₁, h₂, h₃, h₄, h₅, h₆, h₇, h₈, h₉, h₁₀, h₁₁, h₁₂, h₁₃, h₁₄⟩ := h
  exact ⟨h₁, h₂, by simpa using h₃, h₄, h₅, h₆, h₇, h₈, h₉, h₁₀, h₁₁, h₁₂, h₁₃, h₁₄⟩

theorem Owned.driveNote {c : Instr} {s t : State} (h : Owned c s t) : Owned c s t.driveNote := by
  obtain ⟨h₁, h₂, h₃, h₄, h₅, h₆, h₇, h₈, h₉, h₁₀, h₁₁, h₁₂, h₁₃, h₁₄⟩ := h
  exact ⟨h₁, h₂, h₃, h₄, h₅, h₆, h₇, h₈, h₉, h₁₀, h₁₁, h₁₂, h₁₃, h₁₄⟩

theorem Owned.advanceDeny {c : Instr} {s t : State} (h : Owned c s t) : Owned c s t.advanceDeny := by
  obtain ⟨h₁, h₂, h₃, h₄, h₅, h₆, h₇, h₈, h₉, h₁₀, h₁₁, h₁₂, h₁₃, h₁₄⟩ := h
  exact ⟨h₁, h₂, by simpa using h₃, h₄, h₅, h₆, h₇, h₈, h₉, h₁₀, h₁₁, h₁₂, h₁₃, h₁₄⟩

theorem Owned.beginLookup {c : Instr} {s t : State} (h : Owned c s t) : Owned c s t.beginLookup := by
  obtain ⟨h₁, h₂, h₃, h₄, h₅, h₆, h₇, h₈, h₉, h₁₀, h₁₁, h₁₂, h₁₃, h₁₄⟩ := h
  exact ⟨h₁, h₂, h₃, h₄, h₅, h₆, h₇, h₈, h₉, h₁₀, h₁₁, h₁₂, h₁₃, h₁₄⟩

/-- A host access changes memory and, as its address has it, the owners' state of a reset, a clear of flags, an enable
write or a state-byte write. -/
theorem State.access_owned (s : State) {c : Instr} {a : Nat} {data : Word} {lanes : Lanes}
    (hc : hostAccess c = some (a, data, lanes)) : Owned c s (s.access a data lanes) := by
  rcases s.access_cases a data lanes with ⟨-, h⟩ | ⟨rfl, h⟩ | ⟨rfl, h⟩ | ⟨rfl, h⟩ | ⟨-, -, -, -, h⟩ <;> rw [h]
  · have hw := writesStateByte_of_hostAccess hc
    cases hs : c.writesStateByte with
    | true =>
      obtain ⟨m, q, F, N, h⟩ := s.writeMemoryWord_frame a data lanes
      rw [h]
      constructor <;> simp [hs]
    | false =>
      rw [hs] at hw
      obtain ⟨m, F, h⟩ := s.writeMemoryWord_frame_of_plain data (even_of_hostAccess hc) hw.symm
      rw [h]
      constructor <;> simp
  · have hr := resets_of_hostAccess hc
    cases hw : resetWrite data lanes with
    | true =>
      rw [State.writeEngControl_of_resetWrite _ hw]
      obtain ⟨m, i, j, u, N, h⟩ := State.engineReset_frame { s with notice := s.notice.control data }
      rw [h]
      constructor <;> simp [hr, hw, NoticeUnit.control]
    | false =>
      rw [State.writeEngControl_of_not_resetWrite _ hw]
      constructor <;> simp [NoticeUnit.control, apply_ite NoticeUnit.enable]
  · have hf := clearsFlag_of_hostAccess hc 8
    obtain ⟨m, h⟩ := s.clearEvents_frame data lanes
    rw [h]
    cases hb : (laneFlags data lanes).getLsbD 8 <;> constructor <;> simp [hf, hb]
  · have he := of_hostAccess_eventEnable hc
    constructor
    case enable => exact .inr (.inr he)
    all_goals simp [State.writeEventEnable]
  · exact .refl c s

/-- Every command changes its own blocks' state alone. -/
theorem Run.owned {s t : State} {c : Instr} (h : Run s c t) : Owned c s t := by
  cases h with
  | absent => exact .refl c s
  | powerOn => refine Owned.settled (.driveNote ?_); constructor <;> simp [State.powerOn, Instr.resets]
  | access hc => exact (s.access_owned hc).driveNote.settled
  | ignored => exact (Owned.refl _ s).settled
  | mirrorRead lanes =>
    refine Owned.settled ?_
    constructor <;> simp [State.readMirrorWord0, apply_ite Journey.capture, apply_ite Journey.kind,
      apply_ite Journey.stop, apply_ite Journey.round, apply_ite Journey.serviceDay]
  | clockEdge hc =>
    obtain ⟨m, k, d, F, h⟩ := s.clockEdge_frame
    have hd : d.list = s.deny.list := by
      rcases s.clockEdge_deny with hd | ⟨day, hd⟩ <;> rw [h] at hd <;> simp [show d = _ from hd]
    refine Owned.settled (.driveNote ?_)
    rw [h]
    constructor <;> rcases hc with rfl | rfl <;> simp [hd]
  | loseClock =>
    obtain ⟨m, F, h⟩ := s.loseClock_frame
    refine Owned.settled (.driveNote ?_)
    rw [h]
    constructor <;> simp
  | inspect =>
    obtain ⟨f, -, -, -, -, h⟩ := (s.take .inspection _).beginInspection_spec _
    refine Owned.settled (.driveNote ?_)
    rw [h, State.take_inspection_eq]
    constructor <;> simp
  | inspectCompletion =>
    obtain ⟨m, r, l, F, N, h⟩ := s.completeInspection_frame _ _
    refine Owned.settled (.driveNote ?_)
    rw [h]
    constructor <;> simp
  | checkJobEnd =>
    obtain ⟨m, f, u, l, e, k, N, h⟩ := s.chooseCheck.endJob_frame
    refine Owned.driveNote (.advanceDeny ?_)
    rw [h]
    constructor <;> simp
  | checkPieceEnd =>
    obtain ⟨u, h⟩ := s.chooseCheck.endPiece_frame
    refine Owned.settled (.driveNote ?_)
    rw [h]
    constructor <;> simp
  | engineLookup =>
    obtain ⟨f, l, r, h⟩ := s.serveEngineLookup_frame _ _
    refine Owned.settled (.driveNote ?_)
    rw [h]
    constructor <;> simp
  | probeLookup =>
    obtain ⟨m, u, N, h⟩ := s.serveProbe_frame _
    refine Owned.settled (.driveNote ?_)
    rw [h]
    constructor <;> simp
  | add =>
    obtain ⟨m, u, d, F, N, h⟩ := s.applyAdd_frame _ _ _
    refine Owned.driveNote (.beginLookup ?_)
    rw [h]
    constructor <;> simp
  | delete =>
    obtain ⟨m, u, d, N, h⟩ := s.applyDelete_frame _
    refine Owned.driveNote (.beginLookup ?_)
    rw [h]
    constructor <;> simp
  | clear =>
    obtain ⟨m, u, d, N, h⟩ := s.applyClear_frame
    refine Owned.driveNote (.beginLookup ?_)
    rw [h]
    constructor <;> simp
  | sweepStep =>
    obtain ⟨m, h⟩ := s.applySweepStep_frame
    refine Owned.settled (.driveNote ?_)
    rw [h]
    constructor <;> simp
  | depart =>
    obtain ⟨m, k, N, h⟩ := s.serveDepart_frame _
    refine Owned.settled (.driveNote ?_)
    rw [h]
    constructor <;> simp
  | arrive =>
    obtain ⟨m, k, p, r, cap, v, l, F, N, h⟩ := s.serveArrive_frame _
    refine Owned.settled (.driveNote ?_)
    rw [h]
    constructor <;> simp
  | pass =>
    obtain ⟨m, p, r, cap, l, F, N, h⟩ := s.servePass_frame _
    refine Owned.settled (.driveNote ?_)
    rw [h]
    constructor <;> simp
  | set =>
    obtain ⟨m, k, p, v, F, N, h⟩ := s.serveSet_frame _
    refine Owned.settled (.driveNote ?_)
    rw [h]
    constructor <;> simp
  | badEvent =>
    obtain ⟨m, N, h⟩ := s.serveBadEvent_frame _
    refine Owned.settled (.driveNote ?_)
    rw [h]
    constructor <;> simp
  | clockSet =>
    obtain ⟨m, k, d, F, N, h⟩ := s.serveClockSet_frame _
    have hd : d.list = s.deny.list := by
      rcases s.serveClockSet_deny _ with hd | ⟨day, hd⟩ <;> rw [h] at hd <;> simp [show d = _ from hd]
    refine Owned.settled (.driveNote ?_)
    rw [h]
    constructor <;> simp [hd]
  | serviceOpen =>
    obtain ⟨m, u, j, N, h⟩ := s.chooseCheck.takeOpen_frame _
    refine Owned.driveNote (.advanceDeny ?_)
    rw [h]
    constructor <;> simp
  | serviceOpenCompletion =>
    obtain ⟨m, F, N, h⟩ := s.completeOpen_frame _
    refine Owned.settled (.driveNote ?_)
    rw [h]
    constructor <;> simp
  | serviceClose =>
    obtain ⟨m, j, u, l, F, N, h⟩ := s.takeClose_frame _
    refine Owned.settled (.driveNote ?_)
    rw [h]
    constructor <;> simp
  | serviceCloseCompletion =>
    obtain ⟨m, F, N, h⟩ := s.completeClose_frame _
    refine Owned.settled (.driveNote ?_)
    rw [h]
    constructor <;> simp
  | denyBatch =>
    obtain ⟨m, u, j, N, h⟩ := s.chooseCheck.takeBatch_frame _
    refine Owned.driveNote (.advanceDeny ?_)
    rw [h]
    constructor <;> simp
  | denyProbe =>
    obtain ⟨m, N, h⟩ := s.takeProbe_frame _
    refine Owned.settled (.driveNote ?_)
    rw [h]
    constructor <;> simp

end Sys2Proof.Machine
end

section
/-!
The rules about all commands: the step, the queue of commands, power-on and reset, who changes what, and which flags a
command can clear.
-/
namespace Sys2Proof.Machine

/-! ### Steps and power-on -/

/-- Settles O1, by the two units' choices in one equation each. -/
theorem stepRunsFrontCommand : Obligations.StepRunsFrontCommand := by
  unfold Obligations.StepRunsFrontCommand
  refine ⟨fun _ _ _ => rfl, fun s hs => ?_⟩
  have hstep : step s = .next s.idle := by simp only [step, hs]
  rw [hstep, State.idle]
  simp only [State.chooseDeny, State.chooseCheck, CheckUnit.choose_spec, DenyUnit.choose, DenyUnit.next_spec]
  rcases s.deny.serving with _ | op <;> rfl

/-- Settles O2: every command runs, and no run touches the queue. -/
theorem everyCommandCompletesKeepingQueue : Obligations.EveryCommandCompletesKeepingQueue := by
  intro c s
  obtain ⟨t, ht, hrun⟩ := exec_run c s
  exact ⟨t, ht, hrun.owned.pending⟩

/-- No cause is pending after power-on. -/
theorem State.powerOn_noteAgrees (s : State) : s.powerOn.noteAgrees :=
  show true = !State.reset.anyPending from rfl

/-- Settles O3, block by block. -/
theorem powerOnClearsEverything : Obligations.PowerOnClearsEverything := by
  intro s
  have hquiet : s.powerOn.driveNote = s.powerOn := State.driveNote_of_noteAgrees s.powerOn_noteAgrees
  refine ⟨s.powerOn.driveNote.settled, rfl, ?_⟩
  rw [hquiet]
  refine ⟨fun _ => rfl, fun n => ⟨rfl, Vector.getElem_replicate ..⟩, rfl, rfl, rfl, rfl, rfl, rfl, rfl, rfl, rfl,
    rfl, rfl, show State.reset.engControl = _ by decide, show State.reset.noticeWord = _ by decide, rfl, rfl, rfl⟩

theorem State.reset_countCells (c : CellState) (p : Option RequestKind → Bool) (hc : c ≠ .empty) :
    State.reset.countCells c p = 0 := by
  rw [State.countCells, List.countP_eq_zero]
  intro n _
  have : State.reset.cellState n = .empty := rfl
  simp [this, hc.symm]

/-- Settles O4, invariant by invariant. -/
theorem resetMeetsInvariants : Obligations.ResetMeetsInvariants := by
  have empty (n : Fin 32) : State.reset.cellState n = .empty := rfl
  have vacuous {α : Type} {o : Option α} {p : α → Prop} (h : o = none) : ∀ x ∈ o, p x := by simp [h]
  have queue (q : QueueId) (h : State.reset.intake.queue q = []) : State.reset.queueExact q := by
    simp [State.queueExact, h, empty]
  refine ⟨State.reset_memoryCanonical, fun n => by simp [State.reset, Memory.read], ⟨queue _ rfl, queue _ rfl, queue _ rfl⟩,
    ?takenHeld, ?countsExact, rfl, rfl, by decide, by decide, by decide, by decide, vacuous rfl,
    by decide, ⟨⟨by decide, rfl, rfl, rfl, rfl⟩, show ServiceState.noService ≠ .checking by decide⟩,
    ⟨⟨rfl, rfl⟩, ⟨rfl, rfl, rfl⟩, ⟨rfl, vacuous rfl⟩, rfl⟩, .inr ⟨rfl, vacuous rfl⟩, vacuous rfl,
    ⟨by decide, vacuous rfl⟩, fun _ h => (List.not_mem_nil h).elim, vacuous rfl, vacuous rfl⟩
  case takenHeld =>
    have engine : State.reset.engineCell = none := rfl
    have table : State.reset.tableCell = none := rfl
    exact ⟨fun n => by simp [empty, engine, table], fun n h => by simp [engine] at h, vacuous rfl⟩
  case countsExact =>
    simp only [State.countsExact, State.reset_countCells _ _ (show CellState.ready ≠ .empty by decide),
      State.reset_countCells _ _ (show CellState.done ≠ .empty by decide)]
    decide

/-! ### The round -/

/-- An accepted ARRIVE, in one equation (R127). -/
theorem State.serveArrive_accepted_spec {s : State} {n : Fin 32}
    (h : (stateRefusal s.table.service).or (s.arriveFault n) = none) :
    ∃ m N, s.serveArrive n = { s with
      mem := m
      intake := { s.intake with journey := s.intake.journey.tail }
      journey := { s.journey with
        kind := .atStop
        stop := s.arriveTarget n
        round := s.journey.round + s.mem.boundaryCount (s.arrivePath (s.arriveTarget n))
        capture := if s.mem.boundaryCount (s.arrivePath (s.arriveTarget n)) = 0 then s.journey.capture else none }
      table := { s.table with
        service := if s.arriveTarget n = s.mem.header.terminus then .terminated else s.table.service }
      rounds := if s.mem.boundaryCount (s.arrivePath (s.arriveTarget n)) = 0 then s.rounds else []
      notice := { s.notice.withCells N with flags :=
        ((if s.mem.boundaryCount (s.arrivePath (s.arriveTarget n)) = 0 then s.notice.flags
          else (s.notice.flags &&& ~~~ EventFlag.firstFault.bit) ||| EventFlag.boundary.bit) |||
          EventFlag.stopReached.bit) |||
          (if s.arriveTarget n = s.mem.header.terminus then EventFlag.terminus.bit else 0#9) } } := by
  rw [State.serveArrive_of_accepted h, State.answerJourney, State.post_eq]
  obtain ⟨m, ha⟩ := (s.take .journey n).arriveAt_spec (s.arriveTarget n)
  rw [ha]
  simp only [State.take_boundaryCount, State.take_arrivePath, State.take_header]
  generalize (State.post _ n _).mem = m'
  generalize (State.post _ n _).notice = N
  rw [State.take_journey_eq]
  exact ⟨m', N, rfl⟩

/-- An accepted PASS, in one equation (R128). -/
theorem State.servePass_accepted_spec {s : State} {n : Fin 32}
    (h : (stateRefusal s.table.service).or s.passFault = none) :
    ∃ m N, s.servePass n = { s with
      mem := m
      intake := { s.intake with journey := s.intake.journey.tail }
      journey := { s.journey with
        stop := s.mem.header.next s.journey.stop,
        round := s.journey.round + s.mem.boundaryCount [s.mem.header.next s.journey.stop]
        capture := if s.mem.boundaryCount [s.mem.header.next s.journey.stop] = 0 then s.journey.capture else none }
      rounds := if s.mem.boundaryCount [s.mem.header.next s.journey.stop] = 0 then s.rounds else []
      notice := { s.notice.withCells N with
        flags := if s.mem.boundaryCount [s.mem.header.next s.journey.stop] = 0 then s.notice.flags
          else (s.notice.flags &&& ~~~ EventFlag.firstFault.bit) ||| EventFlag.boundary.bit } } := by
  rw [State.servePass_of_accepted h, State.answerJourney, State.post_eq]
  obtain ⟨m, ha⟩ := (s.take .journey n).passNext_spec
  rw [ha]
  simp only [State.take_boundaryCount, State.take_header, State.take_journey]
  generalize (State.post _ n _).mem = m'
  generalize (State.post _ n _).notice = N
  rw [State.take_journey_eq]
  exact ⟨m', N, rfl⟩

/-- A reset command leaves the state, or leaves it as POWER_ON or the engine reset does. -/
theorem Run.of_resets {s t : State} {c : Instr} (h : Run s c t) (hc : c.resets = true) :
    t = s ∨ t = s.powerOn.driveNote.settled ∨
      ∃ data, t = ({ s with notice := s.notice.control data } : State).engineReset.driveNote.settled := by
  cases h with
  | absent => exact .inl rfl
  | powerOn => exact .inr (.inl rfl)
  | @access _ a data lanes haccess =>
    rw [resets_of_hostAccess haccess, Bool.and_eq_true, decide_eq_true_eq] at hc
    obtain ⟨rfl, hw⟩ := hc
    rw [State.access_engControl, State.writeEngControl_of_resetWrite _ hw]
    exact .inr (.inr ⟨data, rfl⟩)
  | clockEdge h => rcases h with rfl | rfl <;> cases hc
  | _ => cases hc

/-- The round of an accepted request stays in its field (R124, row 6). -/
theorem State.round_le_of_not_limit {s : State} {k : Nat} (h : s.roundLimit k = false) : s.journey.round + k ≤ 65535 := by
  simpa [State.roundLimit, Config.wordMax] using h

theorem State.roundLimit_of_arriveFault {s : State} {n : Fin 32} (h : s.arriveFault n = none) :
    s.roundLimit (s.mem.boundaryCount (s.arrivePath (s.arriveTarget n))) = false := by
  unfold State.arriveFault at h
  dsimp only at h
  split at h
  · cases h
  · split at h
    · cases h
    · split at h
      · cases h
      · exact Bool.eq_false_of_not_eq_true ‹_›

theorem State.roundLimit_of_passFault {s : State} (h : s.passFault = none) :
    s.roundLimit (s.mem.boundaryCount [s.mem.header.next s.journey.stop]) = false := by
  unfold State.passFault at h
  dsimp only at h
  split at h
  · cases h
  · split at h
    · cases h
    · split at h
      · cases h
      · exact Bool.eq_false_of_not_eq_true ‹_›

/-- Where boundaries are made BOUNDARY is set (R131). -/
theorem boundary_flag_set (w : BitVec 9) (x y : BitVec 9) :
    ((((w &&& ~~~ EventFlag.firstFault.bit) ||| EventFlag.boundary.bit) ||| x) ||| y).getLsbD
      EventFlag.boundary.number = true := by
  simp [EventFlag.getLsbD_bit]

theorem State.round_arrive {s : State} {n : Fin 32} (h : (s.serveArrive n).journey.round ≠ s.journey.round) :
    (s.serveArrive n).rounds = [] ∧ s.journey.round < (s.serveArrive n).journey.round ∧
      (s.serveArrive n).journey.round ≤ 65535 ∧ (s.serveArrive n).flag .boundary = true := by
  rcases hr : (stateRefusal s.table.service).or (s.arriveFault n) with _ | r
  · obtain ⟨m, N, heq⟩ := State.serveArrive_accepted_spec hr
    have hlimit := State.round_le_of_not_limit (State.roundLimit_of_arriveFault (Option.or_eq_none_iff.mp hr).2)
    rw [heq] at h ⊢
    have hk : s.mem.boundaryCount (s.arrivePath (s.arriveTarget n)) ≠ 0 := fun hk => h (by simp [hk])
    refine ⟨if_neg hk, Nat.lt_add_of_pos_right (Nat.pos_of_ne_zero hk), hlimit, ?_⟩
    simp only [State.flag, if_neg hk]
    exact boundary_flag_set ..
  · obtain ⟨m, N, heq⟩ := s.refuseJourney_frame n r
    rw [State.serveArrive_of_refused hr, heq] at h
    exact absurd rfl h

theorem State.round_pass {s : State} {n : Fin 32} (h : (s.servePass n).journey.round ≠ s.journey.round) :
    (s.servePass n).rounds = [] ∧ s.journey.round < (s.servePass n).journey.round ∧
      (s.servePass n).journey.round ≤ 65535 ∧ (s.servePass n).flag .boundary = true := by
  rcases hr : (stateRefusal s.table.service).or s.passFault with _ | r
  · obtain ⟨m, N, heq⟩ := State.servePass_accepted_spec hr
    have hlimit := State.round_le_of_not_limit (State.roundLimit_of_passFault (Option.or_eq_none_iff.mp hr).2)
    rw [heq] at h ⊢
    have hk : s.mem.boundaryCount [s.mem.header.next s.journey.stop] ≠ 0 := fun hk => h (by simp [hk])
    refine ⟨if_neg hk, Nat.lt_add_of_pos_right (Nat.pos_of_ne_zero hk), hlimit, ?_⟩
    simp only [State.flag, if_neg hk]
    simpa using boundary_flag_set s.notice.flags 0#9 0#9
  · obtain ⟨m, N, heq⟩ := s.refuseJourney_frame n r
    rw [State.servePass_of_refused hr, heq] at h
    exact absurd rfl h

/-- A SERVICE-CLOSE that changes the round has closed the service. -/
theorem State.takeClose_round {s : State} {n : Fin 32} (h : (s.takeClose n).journey.round ≠ s.journey.round) :
    (s.takeClose n).rounds = [] ∧ (s.takeClose n).journey.round = 0 := by
  have closed : ((s.take .table n).completeClose n).rounds = [] ∧ ((s.take .table n).completeClose n).journey.round = 0 := by
    obtain ⟨m, F, N, heq⟩ := (s.take .table n).completeClose_frame n
    rw [heq]
    exact ⟨rfl, rfl⟩
  unfold State.takeClose at h ⊢
  split at h
  · simp at h
  · simp at h
  all_goals
    split at h
    next hidle => simpa only [hidle, if_true] using closed
    next => simp at h

/-- The round changes at the events of R131 and R133 alone. -/
theorem Run.round_change {s t : State} {c : Instr} (h : Run s c t) (hr : t.journey.round ≠ s.journey.round) :
    t.rounds = [] ∧ ((c = .arrive ∨ c = .pass) ∧ s.journey.round < t.journey.round ∧ t.journey.round ≤ 65535 ∧
        t.flag .boundary = true ∨
      c = .serviceOpenCompletion ∧ t.journey.round = 1 ∨
      (c = .serviceClose ∨ c = .serviceCloseCompletion ∨ c.resets = true) ∧ t.journey.round = 0) := by
  rcases h.owned.round with heq | hc | hc
  · exact absurd heq hr
  · rcases h.of_resets hc with rfl | rfl | ⟨data, rfl⟩
    · exact absurd rfl hr
    · exact ⟨rfl, .inr (.inr ⟨.inr (.inr hc), rfl⟩)⟩
    · obtain ⟨m, i, j, u, N, heq⟩ := State.engineReset_frame { s with notice := s.notice.control data }
      rw [heq]
      exact ⟨rfl, .inr (.inr ⟨.inr (.inr hc), rfl⟩)⟩
  · simp only [List.mem_cons, List.not_mem_nil, or_false] at hc
    rcases hc with rfl | rfl | rfl | rfl | rfl <;> cases h
    case arrive =>
      obtain ⟨h₁, h₂⟩ := State.round_arrive hr
      exact ⟨h₁, .inl ⟨.inl rfl, h₂⟩⟩
    case pass =>
      obtain ⟨h₁, h₂⟩ := State.round_pass hr
      exact ⟨h₁, .inl ⟨.inr rfl, h₂⟩⟩
    case serviceOpenCompletion =>
      obtain ⟨m, F, N, heq⟩ := s.completeOpen_frame _
      rw [heq]
      exact ⟨rfl, .inr (.inl ⟨rfl, rfl⟩)⟩
    case serviceClose =>
      obtain ⟨h₁, h₂⟩ := State.takeClose_round hr
      exact ⟨h₁, .inr (.inr ⟨.inl rfl, h₂⟩)⟩
    case serviceCloseCompletion =>
      obtain ⟨m, F, N, heq⟩ := s.completeClose_frame _
      rw [heq]
      exact ⟨rfl, .inr (.inr ⟨.inr (.inl rfl), rfl⟩)⟩
    all_goals simp_all [hostAccess]

/-- Settles O60, by `Run.owned` field by field, and the round by `Run.round_change`. -/
theorem ownersAloneChangeTheirState : Obligations.OwnersAloneChangeTheirState := by
  refine ⟨fun c s t h => ?_, fun c s t h => (run_of_exec h).round_change, fun c s t h hc => ?_⟩ <;>
    have o := (run_of_exec h).owned
  · exact ⟨o.clock.resolve_left, o.denyList.resolve_left, o.counter.resolve_left, o.enable.resolve_left⟩
  · have kept {p q : Prop} (h : p ∨ c.resets = true ∨ q) (hn : ¬ p) : q := by simp_all
    refine ⟨kept o.rounds, kept o.capture, fun hp => ?_, kept o.serviceDay, fun hw => ⟨?_, ?_, ?_⟩⟩
    · by_cases hk : t.journey.kind = s.journey.kind
      · exact kept o.stop fun hs => hp (by rw [hk, hs])
      · exact kept o.kind hk
    · exact fun hn => (kept o.inspection hn).resolve_left (by simp [hw])
    · exact fun hn => (kept o.journeys hn).resolve_left (by simp [hw])
    · exact fun hn => (kept o.table hn).resolve_left (by simp [hw])

end Sys2Proof.Machine
end

section
/-!
The event flags through every command: an operation raises flags, and clears none but FIRST_FAULT with a re-arm (R137, R187).
-/
namespace Sys2Proof.Machine

/-- The flags of `t` are those of `s` with none or more raised. -/
def State.raises (s t : State) : Prop := ∃ F, t.notice.flags = s.notice.flags ||| F

/-- The flags of `t` are those of `s` with FIRST_FAULT cleared, and then none or more raised. -/
def State.rearms (s t : State) : Prop := ∃ F, t.notice.flags = (s.notice.flags &&& ~~~ EventFlag.firstFault.bit) ||| F

theorem State.raises_of_eq {s t : State} (h : t.notice.flags = s.notice.flags) : s.raises t :=
  ⟨0#9, by rw [h, BitVec.or_zero]⟩

theorem State.raises.trans {s t u : State} (h₁ : s.raises t) (h₂ : t.raises u) : s.raises u := by
  obtain ⟨F, h₁⟩ := h₁
  obtain ⟨G, h₂⟩ := h₂
  exact ⟨F ||| G, by rw [h₂, h₁, BitVec.or_assoc]⟩

/-- A flag set stays set where flags are only raised. -/
theorem State.raises.flag {s t : State} (h : s.raises t) {f : EventFlag} (hf : s.flag f = true) : t.flag f = true := by
  obtain ⟨F, h⟩ := h
  simp only [State.flag] at hf ⊢
  rw [h, BitVec.getLsbD_or, hf, Bool.true_or]

/-- A flag other than FIRST_FAULT stays set where the capture is re-armed. -/
theorem State.rearms.flag {s t : State} (h : s.rearms t) {f : EventFlag} (hf : s.flag f = true) (hne : f ≠ .firstFault) :
    t.flag f = true := by
  obtain ⟨F, h⟩ := h
  simp only [State.flag] at hf ⊢
  rw [h, BitVec.getLsbD_or, BitVec.getLsbD_and, BitVec.getLsbD_not, hf, EventFlag.getLsbD_bit]
  simp [hne, EventFlag.number_lt]

/-! ### The operations that raise flags -/

theorem State.writeStateByte_flags (s : State) (n : Fin 32) (v : Byte) :
    (s.writeStateByte n v).notice.flags = s.notice.flags ∨
      (s.writeStateByte n v).notice.flags = s.notice.flags ||| EventFlag.cellMisuse.bit := by
  unfold State.writeStateByte
  split
  · split
    · exact .inl rfl
    · split
      · refine .inl ?_
        unfold State.arriveCell
        dsimp only
        split
        · rfl
        · rw [State.post_flags]
      · exact .inr rfl
  · split
    · refine .inl ?_
      unfold State.withdrawCell
      split <;> rfl
    · split
      · exact .inl rfl
      · exact .inr rfl
  · exact .inl rfl
  · split
    · exact .inl rfl
    · exact .inr rfl

theorem State.writeByte_flags (s : State) (a : Nat) (b : Byte) :
    (s.writeByte a b).notice.flags = s.notice.flags ∨
      (s.writeByte a b).notice.flags = s.notice.flags ||| EventFlag.cellMisuse.bit ∨
      (s.writeByte a b).notice.flags = s.notice.flags ||| EventFlag.guardHit.bit := by
  unfold State.writeByte
  split
  · exact (s.writeStateByte_flags _ b).imp_right .inl
  · split
    · exact .inl rfl
    · split
      · exact .inr (.inr rfl)
      · exact .inl rfl

theorem State.writeByte_raises (s : State) (a : Nat) (b : Byte) : s.raises (s.writeByte a b) := by
  rcases s.writeByte_flags a b with h | h | h
  · exact State.raises_of_eq h
  · exact ⟨_, h⟩
  · exact ⟨_, h⟩

theorem State.writeMemoryWord_raises (s : State) (a : Nat) (data : Word) (lanes : Lanes) :
    s.raises (s.writeMemoryWord a data lanes) := by
  have high : s.raises (if lanes.high then s.writeByte (a + 1) (highByte data) else s) := by
    split
    · exact s.writeByte_raises _ _
    · exact State.raises_of_eq rfl
  unfold State.writeMemoryWord
  dsimp only
  split
  · exact high.trans (State.writeByte_raises _ _ _)
  · exact high

/-- One second raises DAY_CHANGE where its cascade moves the day on, and no other flag (R66, R67). -/
theorem State.advanceSecond_flags (s : State) :
    s.advanceSecond.notice.flags = if 59 ≤ s.clock.second ∧ 1439 ≤ s.clock.minute ∧ s.clock.day < 65535
      then s.notice.flags ||| EventFlag.dayChange.bit else s.notice.flags := by
  simp only [State.advanceSecond, State.rewriteMirror_notice]
  split
  · rw [if_neg (by omega)]
  · simp only [State.advanceMinute]
    split
    · rw [if_neg (by omega)]
    · rw [State.advanceDay_spec]
      by_cases h : s.clock.day < 65535
      · rw [if_pos h, if_pos (by omega)]
        rfl
      · rw [if_neg h, if_neg (by omega)]

theorem State.clockEdge_flags (s : State) : s.clockEdge.notice.flags = s.notice.flags ∨
    s.clockEdge.notice.flags = s.notice.flags ||| EventFlag.dayChange.bit := by
  unfold State.clockEdge
  split
  · exact .inl rfl
  · rw [State.advanceSecond_flags]
    split
    · exact .inr rfl
    · exact .inl rfl

theorem State.clockEdge_raises (s : State) : s.raises s.clockEdge :=
  s.clockEdge_flags.elim State.raises_of_eq fun h => ⟨_, h⟩

/-- A clock set forward by a day or more raises DAY_CHANGE, and no other flag is touched (R72). -/
theorem State.setClock_flags (s : State) (r : ClockRequest) : (s.setClock r).notice.flags =
    if s.clock.day < r.day then s.notice.flags ||| EventFlag.dayChange.bit else s.notice.flags := by
  unfold State.setClock
  by_cases h : s.clock.day < r.day
  · simp only [decide_eq_true h, if_pos h, if_true]
    rfl
  · simp only [decide_eq_false h, if_neg h, Bool.false_eq_true, if_false]
    rfl

theorem State.serveClockSet_flags (s : State) (n : Fin 32) : (s.serveClockSet n).notice.flags = s.notice.flags ∨
    (s.serveClockSet n).notice.flags = s.notice.flags ||| EventFlag.dayChange.bit := by
  unfold State.serveClockSet
  dsimp only
  split
  · exact .inl (by rw [State.post_flags, State.take_flags])
  · rw [State.post_flags, State.setClock_flags, State.take_flags]
    split
    · exact .inr rfl
    · exact .inl rfl

theorem State.serveClockSet_raises (s : State) (n : Fin 32) : s.raises (s.serveClockSet n) :=
  (s.serveClockSet_flags n).elim State.raises_of_eq fun h => ⟨_, h⟩

theorem State.completeInspection_raises (s : State) (f : Flight) (v : Verdict) : s.raises (s.completeInspection f v) := by
  unfold State.completeInspection State.fillCapture
  dsimp only
  rw [State.raises, State.rewriteMirror_notice, State.post_flags]
  split
  · exact ⟨EventFlag.firstFault.bit, rfl⟩
  · exact State.raises_of_eq rfl

theorem State.applyAdd_flags (s : State) (media reason expiry : Nat) :
    (s.applyAdd media reason expiry).notice.flags =
      if denyFullFor s.deny.list media then s.notice.flags ||| EventFlag.denyFull.bit else s.notice.flags := by
  unfold State.applyAdd
  split
  · obtain ⟨m, t, e, N, h⟩ := (s.raise .denyFull).afterEdit_frame false
    rw [h]
    rfl
  · generalize denyInsert .. = l
    obtain ⟨m, t, e, N, h⟩ := (s.setDenyList l).afterEdit_frame true
    rw [h]
    rfl

theorem State.applyAdd_raises (s : State) (media reason expiry : Nat) : s.raises (s.applyAdd media reason expiry) := by
  have h := s.applyAdd_flags media reason expiry
  split at h
  · exact ⟨_, h⟩
  · exact State.raises_of_eq h

theorem State.serveSet_raises (s : State) (n : Fin 32) : s.raises (s.serveSet n) := by
  have refused (r : Reply) : s.raises (s.refuseJourney n r) := by
    obtain ⟨m, N, h⟩ := s.refuseJourney_frame n r
    rw [h]
    exact State.raises_of_eq rfl
  unfold State.serveSet
  split
  · exact refused _
  · exact refused _
  next stop kind _ _ =>
    refine State.raises.trans (t := (s.take .journey n).setPosition stop kind) ?_ (State.raises_of_eq (State.post_flags ..))
    unfold State.setPosition
    dsimp only
    split
    · exact ⟨EventFlag.terminus.bit, rfl⟩
    · exact State.raises_of_eq rfl

/-! ### The operations that re-arm the capture -/

theorem State.serveArrive_raises_or_rearms (s : State) (n : Fin 32) :
    s.raises (s.serveArrive n) ∨ s.rearms (s.serveArrive n) := by
  rcases hr : (stateRefusal s.table.service).or (s.arriveFault n) with _ | r
  · obtain ⟨m, N, h⟩ := State.serveArrive_accepted_spec hr
    rw [h]
    by_cases hk : s.mem.boundaryCount (s.arrivePath (s.arriveTarget n)) = 0
    · simp only [hk, if_true]
      exact .inl ⟨_, BitVec.or_assoc ..⟩
    · simp only [hk, if_false]
      exact .inr ⟨_, by rw [BitVec.or_assoc, BitVec.or_assoc]⟩
  · obtain ⟨m, N, h⟩ := s.refuseJourney_frame n r
    rw [State.serveArrive_of_refused hr, h]
    exact .inl (State.raises_of_eq rfl)

theorem State.servePass_raises_or_rearms (s : State) (n : Fin 32) :
    s.raises (s.servePass n) ∨ s.rearms (s.servePass n) := by
  rcases hr : (stateRefusal s.table.service).or s.passFault with _ | r
  · obtain ⟨m, N, h⟩ := State.servePass_accepted_spec hr
    rw [h]
    by_cases hk : s.mem.boundaryCount [s.mem.header.next s.journey.stop] = 0
    · simp only [hk, if_true]
      exact .inl (State.raises_of_eq rfl)
    · simp only [hk, if_false]
      exact .inr ⟨_, rfl⟩
  · obtain ⟨m, N, h⟩ := s.refuseJourney_frame n r
    rw [State.servePass_of_refused hr, h]
    exact .inl (State.raises_of_eq rfl)

/-- The completion of an open clears FIRST_FAULT and no other flag (R133). -/
theorem State.completeOpen_flags (s : State) (n : Fin 32) :
    (s.completeOpen n).notice.flags = s.notice.flags &&& ~~~ EventFlag.firstFault.bit := by
  unfold State.completeOpen State.enterService
  rw [State.finishTable_flags, State.rewriteMirror_notice]
  rfl

/-- The completion of a close clears FIRST_FAULT and no other flag (R133). -/
theorem State.completeClose_flags (s : State) (n : Fin 32) :
    (s.completeClose n).notice.flags = s.notice.flags &&& ~~~ EventFlag.firstFault.bit := by
  unfold State.completeClose State.enterService
  rw [State.finishTable_flags, State.rewriteMirror_notice]
  rfl

theorem State.rearms_of_eq {s t : State} (h : t.notice.flags = s.notice.flags &&& ~~~ EventFlag.firstFault.bit) :
    s.rearms t :=
  ⟨0#9, by rw [h, BitVec.or_zero]⟩

theorem State.takeClose_raises_or_rearms (s : State) (n : Fin 32) :
    s.raises (s.takeClose n) ∨ s.rearms (s.takeClose n) := by
  unfold State.takeClose
  split
  · exact .inl (State.raises_of_eq (by rw [State.finishTable_flags, State.take_flags]))
  · exact .inl (State.raises_of_eq (by rw [State.finishTable_flags, State.take_flags]))
  all_goals
    split
    · exact .inr (State.rearms_of_eq (by rw [State.completeClose_flags, State.take_flags]))
    · exact .inl (State.raises_of_eq (by rw [State.hold_notice, State.take_flags]))

/-! ### Every command -/

/-- The commands that can re-arm the capture of their own. -/
def rearming : List Instr := [.arrive, .pass, .serviceOpenCompletion, .serviceClose, .serviceCloseCompletion]

/-- A flag set stays set through a command, or it is FIRST_FAULT at a re-arm, or a reset or a clear of its bit. -/
def keepsFlags (c : Instr) (s t : State) : Prop :=
  s.raises t ∨ s.rearms t ∧ c ∈ rearming ∨ c.resets = true ∨
    ∀ f : EventFlag, s.flag f = true → t.flag f = false → c.clearsFlag f.number = true

/-! The end of an event has no part in the flags. -/

theorem keepsFlags.driveNote {c : Instr} {s t : State} (h : keepsFlags c s t) : keepsFlags c s t.driveNote := h

theorem keepsFlags.settled {c : Instr} {s t : State} (h : keepsFlags c s t) : keepsFlags c s t.settled := h

theorem keepsFlags.advanceDeny {c : Instr} {s t : State} (h : keepsFlags c s t) : keepsFlags c s t.advanceDeny := h

theorem keepsFlags.beginLookup {c : Instr} {s t : State} (h : keepsFlags c s t) : keepsFlags c s t.beginLookup := h

theorem keepsFlags.chooseCheck {c : Instr} {s t : State} (h : keepsFlags c s t) : keepsFlags c s t.chooseCheck := h

theorem State.access_keepsFlags (s : State) {c : Instr} {a : Nat} {data : Word} {lanes : Lanes}
    (hc : hostAccess c = some (a, data, lanes)) : keepsFlags c s (s.access a data lanes) := by
  rcases s.access_cases a data lanes with ⟨-, h⟩ | ⟨rfl, h⟩ | ⟨rfl, h⟩ | ⟨rfl, h⟩ | ⟨-, -, -, -, h⟩ <;> rw [h]
  · exact .inl (s.writeMemoryWord_raises a data lanes)
  · cases hw : resetWrite data lanes with
    | true => exact .inr (.inr (.inl (by simp [resets_of_hostAccess hc, hw])))
    | false =>
      rw [State.writeEngControl_of_not_resetWrite _ hw]
      exact .inl (State.raises_of_eq (by simp [apply_ite NoticeUnit.flags, NoticeUnit.control]))
  · obtain ⟨m, h⟩ := s.clearEvents_frame data lanes
    refine .inr (.inr (.inr fun f hf ht => ?_))
    rw [clearsFlag_of_hostAccess hc, decide_eq_true rfl, Bool.true_and]
    rw [h] at ht
    simpa [State.flag, EventFlag.number_lt, show s.notice.flags.getLsbD f.number = true from hf] using ht
  · exact .inl (State.raises_of_eq rfl)
  · exact .inl (State.raises_of_eq rfl)

theorem Run.keepsFlags {s t : State} {c : Instr} (h : Run s c t) : keepsFlags c s t := by
  have same {u : State} (h : u.notice.flags = s.notice.flags) : Machine.keepsFlags c s u := .inl (State.raises_of_eq h)
  have rearm {u : State} (h : s.raises u ∨ s.rearms u) (hc : c ∈ rearming) : Machine.keepsFlags c s u :=
    h.imp_right fun h => .inl ⟨h, hc⟩
  cases h with
  | absent => exact same rfl
  | powerOn => exact .inr (.inr (.inl rfl))
  | access hc => exact Machine.keepsFlags.settled (.driveNote <| s.access_keepsFlags hc)
  | ignored => exact same rfl
  | mirrorRead => exact same rfl
  | clockEdge => exact Machine.keepsFlags.settled (.driveNote <| .inl s.clockEdge_raises)
  | loseClock => exact Machine.keepsFlags.settled (.driveNote <| .inl ⟨EventFlag.clockLost.bit, rfl⟩)
  | inspect =>
    obtain ⟨f, -, -, -, -, h⟩ := (s.take .inspection _).beginInspection_spec _
    exact Machine.keepsFlags.settled (.driveNote (same (by rw [h]; exact s.take_flags ..)))
  | inspectCompletion => exact Machine.keepsFlags.settled (.driveNote <| .inl (s.completeInspection_raises _ _))
  | checkJobEnd =>
    obtain ⟨m, f, u, l, e, k, N, h⟩ := s.chooseCheck.endJob_frame
    exact Machine.keepsFlags.driveNote (.advanceDeny <| same (by rw [h]; rfl))
  | checkPieceEnd =>
    obtain ⟨u, h⟩ := s.chooseCheck.endPiece_frame
    exact Machine.keepsFlags.settled (.driveNote <| same (by rw [h]; rfl))
  | engineLookup =>
    obtain ⟨f, l, r, h⟩ := s.serveEngineLookup_frame _ _
    exact Machine.keepsFlags.settled (.driveNote <| same (by rw [h]))
  | probeLookup =>
    obtain ⟨m, u, N, h⟩ := s.serveProbe_frame _
    exact Machine.keepsFlags.settled (.driveNote <| same (by rw [h]))
  | add => exact Machine.keepsFlags.driveNote (.beginLookup <| .chooseCheck <| .inl (s.applyAdd_raises _ _ _))
  | delete =>
    obtain ⟨m, u, d, N, h⟩ := s.applyDelete_frame _
    exact Machine.keepsFlags.driveNote (.beginLookup <| .chooseCheck <| same (by rw [h]))
  | clear =>
    obtain ⟨m, u, d, N, h⟩ := s.applyClear_frame
    exact Machine.keepsFlags.driveNote (.beginLookup <| .chooseCheck <| same (by rw [h]))
  | sweepStep =>
    obtain ⟨m, h⟩ := s.applySweepStep_frame
    exact Machine.keepsFlags.settled (.driveNote <| same (by rw [h]))
  | depart =>
    obtain ⟨m, k, N, h⟩ := s.serveDepart_frame _
    exact Machine.keepsFlags.settled (.driveNote <| same (by rw [h]))
  | arrive => exact Machine.keepsFlags.settled (.driveNote <| rearm (s.serveArrive_raises_or_rearms _) (by simp [rearming]))
  | pass => exact Machine.keepsFlags.settled (.driveNote <| rearm (s.servePass_raises_or_rearms _) (by simp [rearming]))
  | set => exact Machine.keepsFlags.settled (.driveNote <| .inl (s.serveSet_raises _))
  | badEvent =>
    obtain ⟨m, N, h⟩ := s.serveBadEvent_frame _
    exact Machine.keepsFlags.settled (.driveNote <| same (by rw [h]))
  | clockSet => exact Machine.keepsFlags.settled (.driveNote <| .inl (s.serveClockSet_raises _))
  | serviceOpen =>
    obtain ⟨m, u, j, N, h⟩ := s.chooseCheck.takeOpen_frame _
    exact Machine.keepsFlags.driveNote (.advanceDeny <| same (by rw [h]; rfl))
  | serviceOpenCompletion =>
    exact Machine.keepsFlags.settled (.driveNote <| rearm (.inr (State.rearms_of_eq (s.completeOpen_flags _))) (by simp [rearming]))
  | serviceClose => exact Machine.keepsFlags.settled (.driveNote <| rearm (s.takeClose_raises_or_rearms _) (by simp [rearming]))
  | serviceCloseCompletion =>
    exact Machine.keepsFlags.settled (.driveNote <| rearm (.inr (State.rearms_of_eq (s.completeClose_flags _))) (by simp [rearming]))
  | denyBatch =>
    obtain ⟨m, u, j, N, h⟩ := s.chooseCheck.takeBatch_frame _
    exact Machine.keepsFlags.driveNote (.advanceDeny <| same (by rw [h]; rfl))
  | denyProbe =>
    obtain ⟨m, N, h⟩ := s.takeProbe_frame _
    exact Machine.keepsFlags.settled (.driveNote <| same (by rw [h]))

/-- Settles O59, by `Run.keepsFlags`. -/
theorem flagsAreSticky : Obligations.FlagsAreSticky := by
  intro c s t f hexec hset hclear
  rcases (run_of_exec hexec).keepsFlags with h | ⟨h, hc⟩ | hc | h
  · simp [h.flag hset] at hclear
  · by_cases hf : f = .firstFault
    · exact .inr (.inr ⟨hf, by simpa [rearming] using hc⟩)
    · simp [h.flag hset hf] at hclear
  · exact .inl hc
  · exact .inr (.inl (h f hset hclear))

end Sys2Proof.Machine
end

section
/-!
What the operations do to the cells and to memory above them: an operation leaves every state byte as it is (`State.steady`)
or sets that of one cell (`State.moves`), and in either case keeps memory canonical, the counts exact and every byte from
the scratch area up.
-/
namespace Sys2Proof.Machine

/-! ### The two relations -/

/-- `t` has the state bytes, the arrival kinds and the counts of `s`, and canonical memory where `s` has it. -/
structure State.sameCells (s t : State) : Prop where
  kinds : t.intake.arrivalKind = s.intake.arrivalKind
  canonical : s.memoryCanonical → t.memoryCanonical
  cells : ∀ m, t.mem.read (cellBase m) = s.mem.read (cellBase m)
  ready : t.notice.readyCount = s.notice.readyCount
  done : t.notice.doneCount = s.notice.doneCount
  inspectDone : t.notice.inspectDone = s.notice.inspectDone
  otherDone : t.notice.otherDone = s.notice.otherDone

/-- The cells of `s`, and its bytes from the scratch area up. -/
structure State.steady (s t : State) : Prop extends State.sameCells s t where
  high : ∀ a, Config.scratchBase ≤ a → t.mem.read a = s.mem.read a

/-- The state byte of cell `n` is that of `c` in `t`, and every other is that of `s`; the arrival kinds and the bytes from
the scratch area up are those of `s`, and memory stays canonical and the counts exact. -/
structure State.moves (s t : State) (n : Fin 32) (c : CellState) : Prop where
  kinds : t.intake.arrivalKind = s.intake.arrivalKind
  high : ∀ a, Config.scratchBase ≤ a → t.mem.read a = s.mem.read a
  canonical : s.memoryCanonical → t.memoryCanonical
  cells : s.memoryCanonical → ∀ m, t.mem.read (cellBase m) = if m = n then c.code else s.mem.read (cellBase m)
  counts : s.memoryCanonical → s.countsExact → t.countsExact

theorem State.kindOf_congr {s t : State} (h : t.intake.arrivalKind = s.intake.arrivalKind) (n : Fin 32) :
    t.kindOf n = s.kindOf n := by
  simp only [State.kindOf, h]

theorem State.cellState_congr {s t : State} {n : Fin 32} (h : t.mem.read (cellBase n) = s.mem.read (cellBase n)) :
    t.cellState n = s.cellState n :=
  congrArg CellState.ofByte h

namespace State.sameCells

theorem cellState {s t : State} (h : s.sameCells t) (m : Fin 32) : t.cellState m = s.cellState m :=
  State.cellState_congr (h.cells m)

theorem kindOf {s t : State} (h : s.sameCells t) (m : Fin 32) : t.kindOf m = s.kindOf m := State.kindOf_congr h.kinds m

theorem countCells {s t : State} (h : s.sameCells t) (c : CellState) (p : Option RequestKind → Bool) :
    t.countCells c p = s.countCells c p := by
  simp only [State.countCells, h.cellState, h.kindOf]

theorem counts {s t : State} (h : s.sameCells t) (hs : s.countsExact) : t.countsExact := by
  obtain ⟨h₁, h₂, h₃, h₄⟩ := hs
  exact ⟨by rw [h.ready, h₁, h.countCells], by rw [h.done, h₂, h.countCells], by rw [h.inspectDone, h₃, h.countCells],
    by rw [h.otherDone, h₄, h.countCells]⟩

end State.sameCells

namespace State.steady

theorem refl (s : State) : s.steady s := ⟨⟨rfl, id, fun _ => rfl, rfl, rfl, rfl, rfl⟩, fun _ _ => rfl⟩

theorem trans {s t u : State} (h₁ : s.steady t) (h₂ : t.steady u) : s.steady u where
  kinds := h₂.kinds.trans h₁.kinds
  high a ha := (h₂.high a ha).trans (h₁.high a ha)
  canonical h := h₂.canonical (h₁.canonical h)
  cells m := (h₂.cells m).trans (h₁.cells m)
  ready := h₂.ready.trans h₁.ready
  done := h₂.done.trans h₁.done
  inspectDone := h₂.inspectDone.trans h₁.inspectDone
  otherDone := h₂.otherDone.trans h₁.otherDone

/-- A state that differs in other fields alone. -/
theorem of_same {s t : State} (hmem : t.mem = s.mem) (hkinds : t.intake.arrivalKind = s.intake.arrivalKind)
    (hready : t.notice.readyCount = s.notice.readyCount) (hdone : t.notice.doneCount = s.notice.doneCount)
    (hinspect : t.notice.inspectDone = s.notice.inspectDone) (hother : t.notice.otherDone = s.notice.otherDone) :
    s.steady t :=
  ⟨⟨hkinds, fun h => by rwa [State.memoryCanonical, hmem], fun _ => by rw [hmem], hready, hdone, hinspect, hother⟩,
    fun _ _ => by rw [hmem]⟩

end State.steady

namespace State.moves

theorem cellState {s t : State} {n : Fin 32} {c : CellState} (h : s.moves t n c) (hs : s.memoryCanonical) (m : Fin 32) :
    t.cellState m = if m = n then c else s.cellState m := by
  simp only [State.cellState, h.cells hs]
  split
  · exact CellState.ofByte_code c
  · rfl

theorem kindOf {s t : State} {n : Fin 32} {c : CellState} (h : s.moves t n c) (m : Fin 32) : t.kindOf m = s.kindOf m :=
  State.kindOf_congr h.kinds m

theorem trans_steady {s t u : State} {n : Fin 32} {c : CellState} (h₁ : s.moves t n c) (h₂ : t.steady u) :
    s.moves u n c where
  kinds := h₂.kinds.trans h₁.kinds
  high a ha := (h₂.high a ha).trans (h₁.high a ha)
  canonical h := h₂.canonical (h₁.canonical h)
  cells hs m := (h₂.cells m).trans (h₁.cells hs m)
  counts hs hc := h₂.counts (h₁.counts hs hc)

theorem trans {s t u : State} {n : Fin 32} {c d : CellState} (h₁ : s.moves t n c) (h₂ : t.moves u n d) : s.moves u n d where
  kinds := h₂.kinds.trans h₁.kinds
  high a ha := (h₂.high a ha).trans (h₁.high a ha)
  canonical h := h₂.canonical (h₁.canonical h)
  cells hs m := by
    rw [h₂.cells (h₁.canonical hs), h₁.cells hs]
    split <;> rfl
  counts hs hc := h₂.counts (h₁.canonical hs) (h₁.counts hs hc)

end State.moves

theorem State.steady.trans_moves {s t u : State} {n : Fin 32} {c : CellState} (h₁ : s.steady t) (h₂ : t.moves u n c) :
    s.moves u n c where
  kinds := h₂.kinds.trans h₁.kinds
  high a ha := (h₂.high a ha).trans (h₁.high a ha)
  canonical h := h₂.canonical (h₁.canonical h)
  cells hs m := by rw [h₂.cells (h₁.canonical hs), h₁.cells]
  counts hs hc := h₂.counts (h₁.canonical hs) (h₁.counts hc)

/-! ### The primitive operations -/

/-- Cells of different index have different state bytes. -/
theorem cellBase_injective {m n : Fin 32} (h : cellBase m = cellBase n) : m = n := by
  simp only [cellBase, Config.cellSize] at h
  exact Fin.ext (by omega)

/-- A cell in a state is counted (R181). -/
theorem State.countCells_pos {s : State} {n : Fin 32} {c : CellState} {p : Option RequestKind → Bool}
    (hc : s.cellState n = c) (hp : p (s.kindOf n) = true) : 0 < s.countCells c p := by
  rw [State.countCells, List.countP_pos_iff]
  exact ⟨n, List.mem_finRange n, by simp [hc, hp]⟩

/-- One count before and after a cell's state is set: it loses the old state and gains the new. -/
theorem State.countCells_move {s : State} (hm : s.memoryCanonical) (n : Fin 32) (new c : CellState)
    {p : Option RequestKind → Bool} (hp : p (s.kindOf n) = true) :
    s.countCells c p - c.is (s.cellState n) + c.is new = (s.setCellState n new).countCells c p := by
  have h := State.countCells_setCellState hm n new c p
  have hpos : s.cellState n = c → 0 < s.countCells c p := fun hc => State.countCells_pos hc hp
  simp only [hp, Bool.and_true, Bool.toNat, CellState.is] at h ⊢
  by_cases h₁ : s.cellState n = c <;> by_cases h₂ : new = c <;> simp [h₁, h₂] at h hpos ⊢ <;> omega

/-- A count of other kinds than the cell's is left alone. -/
theorem State.countCells_move_other {s : State} (hm : s.memoryCanonical) (n : Fin 32) (new c : CellState)
    {p : Option RequestKind → Bool} (hp : p (s.kindOf n) = false) :
    (s.setCellState n new).countCells c p = s.countCells c p := by
  simpa [hp] using State.countCells_setCellState hm n new c p

theorem State.setCellState_countsExact {s : State} (hm : s.memoryCanonical) (hc : s.countsExact) (n : Fin 32)
    (new : CellState) : (s.setCellState n new).countsExact := by
  obtain ⟨h₁, h₂, h₃, h₄⟩ := hc
  have hr := State.countCells_move hm n new .ready (p := fun _ => true) rfl
  have hd := State.countCells_move hm n new .done (p := fun _ => true) rfl
  by_cases hk : s.kindOf n = some .inspect
  · have hi := State.countCells_move hm n new .done (p := fun k => decide (k = some .inspect)) (decide_eq_true hk)
    have ho := State.countCells_move_other hm n new .done (p := fun k => decide (k ≠ some .inspect)) (by simp [hk])
    simp only [State.countsExact, State.setCellState_notice, NoticeUnit.cellChanged, if_pos hk, h₁, h₂, h₃, h₄]
    exact ⟨hr, hd, hi, ho.symm⟩
  · have hi := State.countCells_move_other hm n new .done (p := fun k => decide (k = some .inspect)) (decide_eq_false hk)
    have ho := State.countCells_move hm n new .done (p := fun k => decide (k ≠ some .inspect)) (decide_eq_true hk)
    simp only [State.countsExact, State.setCellState_notice, NoticeUnit.cellChanged, if_neg hk, h₁, h₂, h₃, h₄]
    exact ⟨hr, hd, hi.symm, ho⟩

theorem State.setCellState_moves (s : State) (n : Fin 32) (c : CellState) : s.moves (s.setCellState n c) n c where
  kinds := rfl
  high a ha := s.setCellState_sameBytesBut n c a
    (cellBase_ne_of_le n (by simp only [Config.scratchBase] at ha; simp only [Config.mirrorBase]; omega))
  canonical h := State.setCellState_memoryCanonical h n c
  cells hs m := by
    by_cases hm : m = n
    · subst hm
      rw [if_pos rfl]
      exact Memory.read_write_same hs _ _
    · rw [if_neg hm]
      exact s.setCellState_sameBytesBut n c _ fun h => hm (cellBase_injective h)
  counts hs hc := State.setCellState_countsExact hs hc n c

/-- A run stored in the body or the answer of a cell leaves the state bytes alone. -/
theorem State.store_cell_steady (s : State) (n : Fin 32) {i : Nat} {bs : List Byte} (hi : 0 < i)
    (hlen : i + bs.length ≤ Config.cellSize) : s.steady (s.store (cellBase n + i) bs) where
  kinds := rfl
  high a ha := s.store_sameBytesBut _ _ a fun h => by
    have := cellBase_lt n
    simp only [Config.scratchBase, Config.mirrorBase, Config.cellSize] at *
    omega
  canonical h := State.store_memoryCanonical h (by
    have := cellBase_lt n
    simp only [Config.memoryEnd, Config.mirrorBase, Config.cellSize] at *
    omega)
  cells m := s.store_sameBytesBut _ _ _ fun h => by
    simp only [cellBase, Config.cellSize] at *
    omega
  ready := rfl
  done := rfl
  inspectDone := rfl
  otherDone := rfl

/-- A posting leaves every state byte but that of its cell, which becomes DONE (R180). -/
theorem State.post_moves (s : State) (n : Fin 32) (answer : List Byte) (body : Option (List Byte)) :
    s.moves (s.post n answer body) n .done := by
  have h₁ : s.steady (s.store (cellBase n + Config.answerOffset) (padTo Config.answerSize answer)) :=
    s.store_cell_steady n (by decide) (by rw [padTo_length]; decide)
  cases body with
  | none => exact h₁.trans_moves (State.setCellState_moves _ n .done)
  | some bs =>
    refine (h₁.trans (State.store_cell_steady _ n (by decide) ?_)).trans_moves (State.setCellState_moves _ n .done)
    simp only [List.length_take, Config.bodyOffset, Config.bodySize, Config.cellSize]
    omega

theorem State.rewriteMirror_steady (s : State) : s.steady s.rewriteMirror where
  kinds := rfl
  high a ha := s.rewriteMirror_sameBytesBut a fun h => by
    simp only [inMirror, Config.scratchBase] at *
    omega
  canonical := State.rewriteMirror_memoryCanonical
  cells m := s.rewriteMirror_sameBytesBut _ fun h => by
    have := cellBase_lt m
    simp only [inMirror, Config.mirrorBase, Config.cellSize] at *
    omega
  ready := rfl
  done := rfl
  inspectDone := rfl
  otherDone := rfl

/-- A take leaves every state byte but that of its cell, which becomes TAKEN (R179). -/
theorem State.take_moves (s : State) (q : QueueId) (n : Fin 32) : s.moves (s.take q n) n .taken :=
  State.steady.trans_moves
    (t := { s with intake := s.intake.setQueue q (s.intake.queue q).tail })
    (.of_same rfl (Intake.setQueue_arrivalKind ..) rfl rfl rfl rfl) (State.setCellState_moves _ n .taken)

theorem State.finishTable_moves (s : State) (n : Fin 32) (answer : List Byte) :
    s.moves (s.finishTable n answer) n .done :=
  State.steady.trans_moves (t := { s with table := { s.table with held := none } }) (.of_same rfl rfl rfl rfl rfl rfl)
    (State.post_moves _ n answer none)

theorem State.hold_steady (s : State) (n : Fin 32) (task : TableTask) : s.steady (s.hold n task) :=
  .of_same rfl rfl rfl rfl rfl rfl

theorem State.raise_steady (s : State) (f : EventFlag) : s.steady (s.raise f) := .of_same rfl rfl rfl rfl rfl rfl

theorem State.driveNote_steady (s : State) : s.steady s.driveNote := .of_same rfl rfl rfl rfl rfl rfl

theorem State.settled_steady (s : State) : s.steady s.settled := .of_same rfl rfl rfl rfl rfl rfl

theorem State.advanceDeny_steady (s : State) : s.steady s.advanceDeny := .of_same rfl rfl rfl rfl rfl rfl

theorem State.beginLookup_steady (s : State) : s.steady s.beginLookup := .of_same rfl rfl rfl rfl rfl rfl

theorem State.chooseCheck_steady (s : State) : s.steady s.chooseCheck := .of_same rfl rfl rfl rfl rfl rfl

theorem State.idle_steady (s : State) : s.steady s.idle := .of_same rfl rfl rfl rfl rfl rfl

theorem State.completeDeny_steady (s : State) : s.steady s.completeDeny := .of_same rfl rfl rfl rfl rfl rfl

theorem State.enterService_steady (s : State) (v : ServiceState) : s.steady (s.enterService v) :=
  State.steady.trans (t := { s with table := { s.table with service := v } }) (.of_same rfl rfl rfl rfl rfl rfl)
    (State.rewriteMirror_steady _)

theorem State.setDenyList_steady (s : State) (l : List DenyEntry) : s.steady (s.setDenyList l) :=
  State.steady.trans (t := { s with deny := { s.deny with list := l } }) (.of_same rfl rfl rfl rfl rfl rfl)
    (State.rewriteMirror_steady _)

/-! ### The clock and the engine -/

theorem State.clockEdge_steady (s : State) : s.steady s.clockEdge := by
  unfold State.clockEdge
  split
  · exact .of_same rfl rfl rfl rfl rfl rfl
  · unfold State.advanceSecond
    dsimp only
    refine State.steady.trans ?_ (State.rewriteMirror_steady _)
    split
    · exact .of_same rfl rfl rfl rfl rfl rfl
    · unfold State.advanceMinute
      split
      · exact .of_same rfl rfl rfl rfl rfl rfl
      · unfold State.advanceDay
        split <;> exact .of_same rfl rfl rfl rfl rfl rfl

theorem State.loseClock_steady (s : State) : s.steady s.loseClock := by
  unfold State.loseClock
  dsimp only
  refine State.steady.trans ?_ (State.rewriteMirror_steady _)
  exact .of_same rfl rfl rfl rfl rfl rfl

theorem State.setClock_steady (s : State) (r : ClockRequest) : s.steady (s.setClock r) := by
  unfold State.setClock
  dsimp only
  refine State.steady.trans ?_ (State.rewriteMirror_steady _)
  split <;> exact .of_same rfl rfl rfl rfl rfl rfl

theorem State.beginInspection_steady (s : State) (n : Fin 32) : s.steady (s.beginInspection n) := by
  obtain ⟨f, -, -, -, -, h⟩ := s.beginInspection_spec n
  rw [h]
  exact .of_same rfl rfl rfl rfl rfl rfl

theorem State.fillCapture_steady (s : State) (f : Flight) (v : Verdict) (amount : Nat) :
    s.steady (s.fillCapture f v amount) := by
  unfold State.fillCapture
  split <;> exact .of_same rfl rfl rfl rfl rfl rfl

theorem State.completeInspection_moves (s : State) (f : Flight) (v : Verdict) :
    s.moves (s.completeInspection f v) f.cell .done := by
  unfold State.completeInspection
  dsimp only
  generalize s.completedRounds .. = l
  refine State.moves.trans_steady ?_ (State.rewriteMirror_steady _)
  refine State.steady.trans_moves ?_ (State.post_moves ..)
  refine State.steady.trans (t := { s with rounds := l.1 }) (.of_same rfl rfl rfl rfl rfl rfl) ?_
  exact (State.fillCapture_steady _ f v _).trans (.of_same rfl rfl rfl rfl rfl rfl)

theorem State.serveEngineLookup_steady (s : State) (media day : Nat) : s.steady (s.serveEngineLookup media day) := by
  obtain ⟨f, l, run, h⟩ := s.serveEngineLookup_frame media day
  rw [h]
  exact .of_same rfl rfl rfl rfl rfl rfl

theorem State.engineResult_steady (s : State) (result : Word) : s.steady (s.engineResult result) := by
  rw [State.engineResult_spec]
  exact .of_same rfl rfl rfl rfl rfl rfl

theorem State.endPiece_steady (s : State) : s.steady s.endPiece := by
  obtain ⟨u, h⟩ := s.endPiece_frame
  rw [h]
  exact .of_same rfl rfl rfl rfl rfl rfl

theorem State.applySweepStep_steady (s : State) : s.steady s.applySweepStep := by
  unfold State.applySweepStep
  refine State.steady.trans ?_ (State.completeDeny_steady _)
  refine State.steady.trans ?_ (State.rewriteMirror_steady _)
  exact .of_same rfl rfl rfl rfl rfl rfl

theorem State.clearEvents_steady (s : State) (data : Word) (lanes : Lanes) : s.steady (s.clearEvents data lanes) := by
  have h : s.steady (s.writeEventFlags data lanes) := .of_same rfl rfl rfl rfl rfl rfl
  unfold State.clearEvents
  split
  · exact h.trans (State.rewriteMirror_steady _)
  · exact h

theorem State.control_steady (s : State) (data : Word) : s.steady { s with notice := s.notice.control data } :=
  .of_same rfl rfl rfl rfl rfl rfl

/-! ### The table unit: what becomes of the cell it holds -/

/-- The table unit goes on with cell `n` for a request of kind `k`: it is answered and let go, or held on. -/
def State.carriesOn (s t : State) (n : Fin 32) (k : RequestKind) : Prop :=
  s.moves t n .done ∧ t.table.held = none ∨ s.steady t ∧ ∃ task, t.table.held = some (n, task) ∧ task.kind = k

theorem State.carriesOn.trans_steady {s t u : State} {n : Fin 32} {k : RequestKind} (h : s.carriesOn t n k)
    (hs : t.steady u) (hheld : u.table.held = t.table.held) : s.carriesOn u n k := by
  rcases h with ⟨h, hn⟩ | ⟨h, htask⟩
  · exact .inl ⟨h.trans_steady hs, hheld.trans hn⟩
  · exact .inr ⟨h.trans hs, by rwa [hheld]⟩

theorem State.steady.trans_carriesOn {s t u : State} {n : Fin 32} {k : RequestKind} (hs : s.steady t)
    (h : t.carriesOn u n k) : s.carriesOn u n k := by
  rcases h with ⟨h, hn⟩ | ⟨h, htask⟩
  · exact .inl ⟨hs.trans_moves h, hn⟩
  · exact .inr ⟨hs.trans h, htask⟩

theorem State.finishTable_carriesOn (s : State) (n : Fin 32) (answer : List Byte) (k : RequestKind) :
    s.carriesOn (s.finishTable n answer) n k :=
  .inl ⟨s.finishTable_moves n answer, rfl⟩

theorem State.checkTable_carriesOn (s : State) (n : Fin 32) (table : Nat) :
    s.carriesOn (s.checkTable n table) n .serviceOpen :=
  .inr ⟨.of_same rfl rfl rfl rfl rfl rfl, _, rfl, rfl⟩

theorem State.failOpen_carriesOn (s : State) (n : Fin 32) (table : Nat) (detail : Byte) (entry : Nat) :
    s.carriesOn (s.failOpen n table detail entry) n .serviceOpen :=
  (s.enterService_steady .noService).trans_carriesOn (State.finishTable_carriesOn ..)

theorem State.openResidue_carriesOn (s : State) (n : Fin 32) (table : Nat) (residue : Word) :
    s.carriesOn (s.openResidue n table residue) n .serviceOpen := by
  unfold State.openResidue
  split
  · exact s.failOpen_carriesOn ..
  · split
    · exact s.checkTable_carriesOn ..
    · split
      · exact s.failOpen_carriesOn ..
      · exact .inr ⟨s.hold_steady .., _, rfl, rfl⟩

theorem State.continueBatch_carriesOn (s : State) (n : Fin 32) (offset count applied : Nat) :
    s.carriesOn (s.continueBatch n offset count applied) n .denyBatch := by
  unfold State.continueBatch
  split
  · exact s.finishTable_carriesOn ..
  · split
    · exact s.finishTable_carriesOn ..
    · exact .inr ⟨.of_same rfl rfl rfl rfl rfl rfl, _, rfl, rfl⟩

theorem State.batchResidue_carriesOn (s : State) (n : Fin 32) (offset count : Nat) (residue : Word) :
    s.carriesOn (s.batchResidue n offset count residue) n .denyBatch := by
  unfold State.batchResidue
  split
  · exact s.finishTable_carriesOn ..
  · exact s.continueBatch_carriesOn ..

theorem State.completeOpen_carriesOn (s : State) (n : Fin 32) : s.carriesOn (s.completeOpen n) n .serviceOpen := by
  unfold State.completeOpen
  dsimp only
  refine State.steady.trans_carriesOn ?_ (State.finishTable_carriesOn ..)
  refine State.steady.trans (t := State.placeAtOrigin _ _ _) ?_ (State.enterService_steady _ _)
  exact .of_same rfl rfl rfl rfl rfl rfl

theorem State.completeClose_carriesOn (s : State) (n : Fin 32) : s.carriesOn (s.completeClose n) n .serviceClose := by
  unfold State.completeClose
  refine State.steady.trans_carriesOn ?_ (State.finishTable_carriesOn ..)
  refine State.steady.trans (t := s.endJourney) ?_ (State.enterService_steady _ _)
  exact .of_same rfl rfl rfl rfl rfl rfl

/-- Work that comes back to the table unit carries its cell on, or finds none that waits for it. -/
def State.returnsTo (s t : State) : Prop :=
  (∃ h ∈ s.table.held, s.carriesOn t h.1 h.2.kind) ∨ s.steady t ∧ t.table.held = s.table.held

theorem State.returnsTo.trans_steady {s t u : State} (h : s.returnsTo t) (hs : t.steady u)
    (hheld : u.table.held = t.table.held) : s.returnsTo u := by
  rcases h with ⟨x, hx, h⟩ | ⟨h, hh⟩
  · exact .inl ⟨x, hx, h.trans_steady hs hheld⟩
  · exact .inr ⟨h.trans hs, hheld.trans hh⟩

theorem State.steady.trans_returnsTo {s t u : State} (hs : s.steady t) (hheld : t.table.held = s.table.held)
    (h : t.returnsTo u) : s.returnsTo u := by
  rcases h with ⟨x, hx, h⟩ | ⟨h, hh⟩
  · exact .inl ⟨x, hheld ▸ hx, hs.trans_carriesOn h⟩
  · exact .inr ⟨hs.trans h, hh.trans hheld⟩

theorem State.tableResult_returnsTo (s : State) (residue : Word) : s.returnsTo (s.tableResult residue) := by
  unfold State.tableResult
  split
  next hheld => exact .inl ⟨_, hheld, s.openResidue_carriesOn ..⟩
  next hheld => exact .inl ⟨_, hheld, s.batchResidue_carriesOn ..⟩
  next => exact .inr ⟨.refl s, rfl⟩

theorem State.afterEdit_returnsTo (s : State) (applied : Bool) : s.returnsTo (s.afterEdit applied) := by
  have hs : s.steady { s with deny := { s.deny with edit := none } } := .of_same rfl rfl rfl rfl rfl rfl
  unfold State.afterEdit
  dsimp only
  split
  next hheld =>
    refine .inl ⟨_, hheld, hs.trans_carriesOn ?_⟩
    split
    · exact State.continueBatch_carriesOn ..
    · exact State.finishTable_carriesOn ..
  next => exact .inr ⟨hs, rfl⟩

theorem State.applyAdd_returnsTo (s : State) (media reason expiry : Nat) :
    s.returnsTo (s.applyAdd media reason expiry) := by
  unfold State.applyAdd
  split
  · exact ((s.raise_steady _).trans_returnsTo rfl (State.afterEdit_returnsTo _ false)).trans_steady
      (State.completeDeny_steady _) rfl
  · exact ((s.setDenyList_steady _).trans_returnsTo rfl (State.afterEdit_returnsTo _ true)).trans_steady
      (State.completeDeny_steady _) rfl

theorem State.applyDelete_returnsTo (s : State) (media : Nat) : s.returnsTo (s.applyDelete media) :=
  ((s.setDenyList_steady _).trans_returnsTo rfl (State.afterEdit_returnsTo _ true)).trans_steady
    (State.completeDeny_steady _) rfl

theorem State.applyClear_returnsTo (s : State) : s.returnsTo s.applyClear :=
  ((s.setDenyList_steady _).trans_returnsTo rfl (State.afterEdit_returnsTo _ true)).trans_steady
    (State.completeDeny_steady _) rfl

theorem State.serveProbe_returnsTo (s : State) (media : Nat) : s.returnsTo (s.serveProbe media) := by
  have hs : s.steady { s with deny := { s.deny with probeLookup := none } } := .of_same rfl rfl rfl rfl rfl rfl
  unfold State.serveProbe
  dsimp only
  split
  next hheld =>
    exact .inl ⟨_, hheld, hs.trans_carriesOn
      ((State.finishTable_carriesOn _ _ _ _).trans_steady (State.completeDeny_steady _) rfl)⟩
  next => exact .inr ⟨hs.trans (State.completeDeny_steady _), rfl⟩

/-- The end of a job reaches the table unit with a residue, or the engine (R163). -/
theorem State.endJob_returnsTo (s : State) : s.returnsTo s.endJob := by
  unfold State.endJob
  split
  · dsimp only
    refine State.steady.trans_returnsTo ?_ ?_ (.inr ⟨State.engineResult_steady _ _, ?_⟩)
    · exact .of_same rfl rfl rfl rfl rfl rfl
    · rfl
    · rw [State.engineResult_spec]
  · dsimp only
    refine State.steady.trans_returnsTo ?_ ?_ (State.tableResult_returnsTo _ _)
    · exact .of_same rfl rfl rfl rfl rfl rfl
    · rfl
  · exact .inr ⟨.refl s, rfl⟩

/-! ### Takes: the head of a queue answered in the same event, or held -/

/-- Cell `n` is answered in the event that takes it, the unit that takes it holding nothing more than before. -/
theorem State.take_then_moves {s t : State} (q : QueueId) {n : Fin 32} {c : CellState} (h : (s.take q n).moves t n c) :
    s.moves t n c :=
  (s.take_moves q n).trans h

theorem State.take_then_steady {s t : State} (q : QueueId) {n : Fin 32} (h : (s.take q n).steady t) :
    s.moves t n .taken :=
  (s.take_moves q n).trans_steady h

theorem State.refuseJourney_moves (s : State) (n : Fin 32) (r : Reply) : s.moves (s.refuseJourney n r) n .done := by
  unfold State.refuseJourney State.answerJourney
  exact State.take_then_moves .journey (State.post_moves ..)

theorem State.serveDepart_moves (s : State) (n : Fin 32) : s.moves (s.serveDepart n) n .done := by
  unfold State.serveDepart State.answerJourney
  split
  · exact s.refuseJourney_moves ..
  · dsimp only
    split
    · exact State.take_then_moves .journey (State.post_moves ..)
    · refine State.take_then_moves .journey (State.steady.trans_moves ?_ (State.post_moves ..))
      refine State.steady.trans ?_ (State.rewriteMirror_steady _)
      exact .of_same rfl rfl rfl rfl rfl rfl

theorem State.arriveAt_steady (s : State) (target : Nat) : s.steady (s.arriveAt target) := by
  unfold State.arriveAt
  dsimp only
  refine State.steady.trans ?_ (State.rewriteMirror_steady _)
  have raised : s.steady ((State.boundaries (s.mem.boundaryCount (s.arrivePath target))
      { s with journey := { s.journey with kind := .atStop, stop := target } }).raise .stopReached) := by
    rw [State.boundaries_spec]
    exact .of_same rfl rfl rfl rfl rfl rfl
  split
  · exact raised.trans (.of_same rfl rfl rfl rfl rfl rfl)
  · exact raised

theorem State.serveArrive_moves (s : State) (n : Fin 32) : s.moves (s.serveArrive n) n .done := by
  unfold State.serveArrive State.answerJourney
  split
  · exact s.refuseJourney_moves ..
  · exact State.take_then_moves .journey ((State.arriveAt_steady _ _).trans_moves (State.post_moves ..))

theorem State.servePass_moves (s : State) (n : Fin 32) : s.moves (s.servePass n) n .done := by
  unfold State.servePass State.answerJourney
  split
  · exact s.refuseJourney_moves ..
  · refine State.take_then_moves .journey (State.steady.trans_moves ?_ (State.post_moves ..))
    unfold State.passNext
    dsimp only
    refine State.steady.trans ?_ (State.rewriteMirror_steady _)
    rw [State.boundaries_spec]
    exact .of_same rfl rfl rfl rfl rfl rfl

theorem State.serveSet_moves (s : State) (n : Fin 32) : s.moves (s.serveSet n) n .done := by
  unfold State.serveSet State.answerJourney
  split
  · exact s.refuseJourney_moves ..
  · exact s.refuseJourney_moves ..
  · refine State.take_then_moves .journey (State.steady.trans_moves ?_ (State.post_moves ..))
    unfold State.setPosition
    dsimp only
    refine State.steady.trans ?_ (State.rewriteMirror_steady _)
    split <;> exact .of_same rfl rfl rfl rfl rfl rfl

theorem State.serveClockSet_moves (s : State) (n : Fin 32) : s.moves (s.serveClockSet n) n .done := by
  unfold State.serveClockSet
  dsimp only
  split
  · exact State.take_then_moves .journey (State.post_moves ..)
  · exact State.take_then_moves .journey ((State.setClock_steady _ _).trans_moves (State.post_moves ..))

/-- The table unit takes cell `n` of kind `k`: it answers it, holding nothing, or holds it. -/
def State.takesUp (s t : State) (n : Fin 32) (k : RequestKind) : Prop :=
  s.moves t n .done ∧ t.table.held = none ∨ s.moves t n .taken ∧ ∃ task, t.table.held = some (n, task) ∧ task.kind = k

theorem State.takesUp_of_carriesOn {s t : State} {n : Fin 32} {k : RequestKind} (h : (s.take .table n).carriesOn t n k) :
    s.takesUp t n k := by
  rcases h with ⟨h, hheld⟩ | ⟨h, hheld⟩
  · exact .inl ⟨State.take_then_moves .table h, hheld⟩
  · exact .inr ⟨State.take_then_steady .table h, hheld⟩

theorem State.takesUp.trans_steady {s t u : State} {n : Fin 32} {k : RequestKind} (h : s.takesUp t n k)
    (hs : t.steady u) (hheld : u.table.held = t.table.held) : s.takesUp u n k := by
  rcases h with ⟨h, hn⟩ | ⟨h, htask⟩
  · exact .inl ⟨h.trans_steady hs, hheld.trans hn⟩
  · exact .inr ⟨h.trans_steady hs, by rwa [hheld]⟩

theorem State.takeOpen_takesUp (s : State) (n : Fin 32) : s.takesUp (s.takeOpen n) n .serviceOpen := by
  unfold State.takeOpen
  split
  · exact State.takesUp_of_carriesOn (State.finishTable_carriesOn ..)
  · split
    · exact State.takesUp_of_carriesOn (State.finishTable_carriesOn ..)
    · exact State.takesUp_of_carriesOn ((State.enterService_steady _ _).trans_carriesOn (State.checkTable_carriesOn ..))

theorem State.takeClose_takesUp (s : State) (n : Fin 32) : s.takesUp (s.takeClose n) n .serviceClose := by
  unfold State.takeClose
  split
  · exact State.takesUp_of_carriesOn (State.finishTable_carriesOn ..)
  · exact State.takesUp_of_carriesOn (State.finishTable_carriesOn ..)
  all_goals
    split
    · exact State.takesUp_of_carriesOn (State.completeClose_carriesOn ..)
    · exact State.takesUp_of_carriesOn (.inr ⟨State.hold_steady .., _, rfl, rfl⟩)

theorem State.takeBatch_takesUp (s : State) (n : Fin 32) : s.takesUp (s.takeBatch n) n .denyBatch := by
  unfold State.takeBatch
  dsimp only
  split
  · exact State.takesUp_of_carriesOn (State.finishTable_carriesOn ..)
  · exact State.takesUp_of_carriesOn (.inr ⟨.of_same rfl rfl rfl rfl rfl rfl, _, rfl, rfl⟩)

theorem State.takeProbe_takesUp (s : State) (n : Fin 32) : s.takesUp (s.takeProbe n) n .denyProbe :=
  State.takesUp_of_carriesOn (.inr ⟨.of_same rfl rfl rfl rfl rfl rfl, _, rfl, rfl⟩)

end Sys2Proof.Machine
end

section
/-!
The cells, the queues and the servers in agreement (R171, R176, R179): what a take, a posting, a host write and a reset each
keep of it, and from these every step.
-/
namespace Sys2Proof.Machine

/-- Legal state bytes, exact queues, and each TAKEN cell with its holder. -/
abbrev State.cellsSound (s : State) : Prop := s.cellBytesLegal ∧ s.queuesExact ∧ s.takenHeld

/-! ### Queues -/

theorem State.queuesExact_iff (s : State) : s.queuesExact ↔ ∀ q, s.queueExact q :=
  ⟨fun ⟨h₁, h₂, h₃⟩ q => by cases q <;> assumption, fun h => ⟨h _, h _, h _⟩⟩

/-- Queues that stand are exact where no cell enters or leaves READY. -/
theorem State.queuesExact_of_same {s t : State} (hs : s.queuesExact) (hq : ∀ q, t.intake.queue q = s.intake.queue q)
    (hkind : ∀ m, t.kindOf m = s.kindOf m) (hcell : ∀ m, t.cellState m = .ready ↔ s.cellState m = .ready) :
    t.queuesExact := by
  rw [State.queuesExact_iff] at *
  intro q
  obtain ⟨hnodup, hmem⟩ := hs q
  simp only [State.queueExact, hq, hkind, hcell]
  exact ⟨hnodup, hmem⟩

/-- The head of a queue leaves it as its cell leaves READY (R179). -/
theorem State.queuesExact_of_pop {s t : State} (hs : s.queuesExact) {q : QueueId} {n : Fin 32}
    (hhead : (s.intake.queue q).head? = some n) (hq : ∀ p, t.intake.queue p = if p = q then (s.intake.queue p).tail
      else s.intake.queue p)
    (hkind : ∀ m, t.kindOf m = s.kindOf m)
    (hcell : ∀ m, t.cellState m = .ready ↔ m ≠ n ∧ s.cellState m = .ready) : t.queuesExact := by
  rw [State.queuesExact_iff] at *
  obtain ⟨rest, hrest⟩ : ∃ rest, s.intake.queue q = n :: rest := by
    rcases h : s.intake.queue q with _ | ⟨m, rest⟩ <;> rw [h] at hhead <;> simp at hhead
    exact ⟨rest, by rw [hhead]⟩
  have hn := (hs q).2 n
  rw [hrest] at hn
  obtain ⟨-, hnkind⟩ := hn.1 (List.mem_cons_self ..)
  intro p
  obtain ⟨hnodup, hmem⟩ := hs p
  simp only [State.queueExact, hq, hkind, hcell]
  by_cases hp : p = q
  · subst hp
    rw [if_pos rfl, hrest, List.tail_cons]
    rw [hrest] at hnodup hmem
    obtain ⟨hnot, hnodup⟩ := List.nodup_cons.mp hnodup
    refine ⟨hnodup, fun m => ?_⟩
    have hm := hmem m
    rw [List.mem_cons] at hm
    by_cases h : m = n
    · subst h
      simp [hnot]
    · simpa [h] using hm
  · rw [if_neg hp]
    refine ⟨hnodup, fun m => (hmem m).trans ?_⟩
    by_cases h : m = n
    · subst h
      simp [hnkind, Ne.symm hp]
    · simp [h]

theorem Intake.queue_setQueue_eq (i : Intake) (q p : QueueId) (l : List (Fin 32)) :
    (i.setQueue q l).queue p = if p = q then l else i.queue p := by
  by_cases h : p = q
  · subst h
    simp
  · rw [if_neg h, Intake.queue_setQueue_of_ne _ h]

/-! ### Holders -/

/-- The cell the table unit holds and the kind of its request. -/
def State.tableHolder (s : State) : Option (Fin 32 × RequestKind) := s.table.held.map fun h => (h.1, h.2.kind)

theorem State.takenHeld_iff (s : State) : s.takenHeld ↔
    (∀ n, s.cellState n = .taken ↔ s.engineCell = some n ∨ ∃ k, s.tableHolder = some (n, k)) ∧
      (∀ n, s.engineCell = some n → s.kindOf n = some .inspect) ∧
      (∀ n k, s.tableHolder = some (n, k) → s.kindOf n = some k ∧ k ≠ .inspect) := by
  have hcell (n : Fin 32) : s.tableCell = some n ↔ ∃ k, s.tableHolder = some (n, k) := by
    unfold State.tableCell State.tableHolder
    rcases s.table.held with _ | ⟨m, task⟩ <;> simp
  have hkind (task : TableTask) : task.kind ≠ .inspect := by cases task <;> simp [TableTask.kind]
  simp only [State.takenHeld, hcell]
  refine and_congr_right fun _ => and_congr_right fun _ => ?_
  unfold State.tableHolder
  rcases s.table.held with _ | ⟨m, task⟩
  · simp
  · simp only [Option.mem_def, Option.some.injEq, Option.map_some, Prod.mk.injEq, forall_eq', and_imp]
    exact ⟨fun h n k hn hk => by subst hn; subst hk; exact ⟨h, hkind task⟩, fun h => (h m task.kind rfl rfl).1⟩

/-! ### The transitions -/

/-- Nothing changes: the cells, the queues and the holders stand. -/
theorem State.cellsSound_of_same {s t : State} (hs : s.cellsSound) (h : s.sameCells t)
    (hq : ∀ q, t.intake.queue q = s.intake.queue q) (he : t.engineCell = s.engineCell)
    (hh : t.tableHolder = s.tableHolder) : t.cellsSound := by
  obtain ⟨hlegal, hqueues, hheld⟩ := hs
  refine ⟨fun n => by rw [h.cells]; exact hlegal n, ?_, ?_⟩
  · exact State.queuesExact_of_same hqueues hq h.kindOf fun m => by rw [h.cellState]
  · rw [State.takenHeld_iff] at *
    simpa only [h.cellState, h.kindOf, he, hh] using hheld

/-- A cell moves between the states and the holders follow it: the state of the bytes and of the holders. -/
theorem State.takenHeld_of_moves {s t : State} {n : Fin 32} {c : CellState} (hm : s.memoryCanonical) (hs : s.takenHeld)
    (h : s.moves t n c) (hothers : ∀ m, m ≠ n → (t.engineCell = some m ↔ s.engineCell = some m) ∧
      ∀ k, t.tableHolder = some (m, k) ↔ s.tableHolder = some (m, k))
    (hself : c = .taken ↔ t.engineCell = some n ∨ ∃ k, t.tableHolder = some (n, k))
    (hengine : t.engineCell = some n → s.kindOf n = some .inspect)
    (htable : ∀ k, t.tableHolder = some (n, k) → s.kindOf n = some k ∧ k ≠ .inspect) : t.takenHeld := by
  rw [State.takenHeld_iff] at *
  obtain ⟨htaken, he, hh⟩ := hs
  refine ⟨fun m => ?_, fun m hme => ?_, fun m k hmk => ?_⟩
  · rw [h.cellState hm]
    by_cases hmn : m = n
    · subst hmn
      rw [if_pos rfl]
      exact hself
    · rw [if_neg hmn, htaken, (hothers m hmn).1]
      simp only [(hothers m hmn).2]
  · rw [h.kindOf]
    by_cases hmn : m = n
    · subst hmn
      exact hengine hme
    · exact he m ((hothers m hmn).1.1 hme)
  · rw [h.kindOf]
    by_cases hmn : m = n
    · subst hmn
      exact htable k hmk
    · exact hh m k (((hothers m hmn).2 k).1 hmk)

theorem State.cellBytesLegal_of_moves {s t : State} {n : Fin 32} {c : CellState} (hm : s.memoryCanonical)
    (hs : s.cellBytesLegal) (h : s.moves t n c) : t.cellBytesLegal := by
  intro m
  rw [h.cells hm]
  split
  · cases c <;> decide
  · exact hs m

/-- The head of a queue is READY with a kind of that queue. -/
theorem State.head_ready {s : State} (hs : s.queuesExact) {q : QueueId} {n : Fin 32}
    (hhead : (s.intake.queue q).head? = some n) :
    s.cellState n = .ready ∧ (s.kindOf n).map RequestKind.queue = some q :=
  ((s.queuesExact_iff.1 hs q).2 n).1 (List.mem_of_mem_head? hhead)

/-- A server takes the head of its queue and answers it in the same event. -/
theorem State.cellsSound_of_answered {s t : State} {n : Fin 32} {q : QueueId} (hm : s.memoryCanonical)
    (hs : s.cellsSound) (hhead : (s.intake.queue q).head? = some n) (h : s.moves t n .done)
    (hq : ∀ p, t.intake.queue p = if p = q then (s.intake.queue p).tail else s.intake.queue p)
    (he : t.engineCell = s.engineCell) (hh : t.tableHolder = s.tableHolder) : t.cellsSound := by
  obtain ⟨hlegal, hqueues, hheld⟩ := hs
  obtain ⟨hready, -⟩ := State.head_ready hqueues hhead
  have hnot := (s.takenHeld_iff.1 hheld).1 n
  simp only [hready, reduceCtorEq, false_iff, not_or, not_exists] at hnot
  refine ⟨State.cellBytesLegal_of_moves hm hlegal h, State.queuesExact_of_pop hqueues hhead hq h.kindOf ?_, ?_⟩
  · intro m
    rw [h.cellState hm]
    by_cases hmn : m = n <;> simp [hmn]
  · refine State.takenHeld_of_moves hm hheld h (fun m _ => by rw [he, hh]; exact ⟨Iff.rfl, fun _ => Iff.rfl⟩) ?_ ?_ ?_
    · rw [he, hh]
      simp [hnot]
    · rw [he]
      exact fun h => absurd h hnot.1
    · rw [hh]
      exact fun k h => absurd h (hnot.2 k)

/-- The verdict engine takes the head of its queue and holds it (R15). -/
theorem State.cellsSound_of_engineTake {s t : State} {n : Fin 32} (hm : s.memoryCanonical) (hs : s.cellsSound)
    (hhead : s.intake.inspection.head? = some n) (h : s.moves t n .taken)
    (hq : ∀ p, t.intake.queue p = if p = .inspection then (s.intake.queue p).tail else s.intake.queue p)
    (hidle : s.engineCell = none) (he : t.engineCell = some n) (hh : t.tableHolder = s.tableHolder) : t.cellsSound := by
  obtain ⟨hlegal, hqueues, hheld⟩ := hs
  obtain ⟨hready, hkind⟩ := State.head_ready (q := .inspection) hqueues hhead
  have hnot := (s.takenHeld_iff.1 hheld).1 n
  simp only [hready, reduceCtorEq, false_iff, not_or, not_exists] at hnot
  refine ⟨State.cellBytesLegal_of_moves hm hlegal h,
    State.queuesExact_of_pop (q := .inspection) hqueues hhead hq h.kindOf ?_, ?_⟩
  · intro m
    rw [h.cellState hm]
    by_cases hmn : m = n <;> simp [hmn]
  · refine State.takenHeld_of_moves hm hheld h (fun m hmn => ⟨by simp [he, hidle, Ne.symm hmn], by simp [hh]⟩) ?_ ?_ ?_
    · simp [he]
    · intro _
      rcases hk : s.kindOf n with _ | k <;> rw [hk] at hkind <;> simp at hkind
      cases k <;> simp [RequestKind.queue] at hkind
      rfl
    · rw [hh]
      exact fun k h => absurd h (hnot.2 k)

/-- The table unit takes the head of its queue and holds it (R147). -/
theorem State.cellsSound_of_tableTake {s t : State} {n : Fin 32} {k : RequestKind} (hm : s.memoryCanonical)
    (hs : s.cellsSound) (hhead : s.intake.table.head? = some n) (h : s.moves t n .taken)
    (hq : ∀ p, t.intake.queue p = if p = .table then (s.intake.queue p).tail else s.intake.queue p)
    (hkind : s.kindOf n = some k) (hfree : s.tableHolder = none) (he : t.engineCell = s.engineCell)
    (hh : t.tableHolder = some (n, k)) : t.cellsSound := by
  obtain ⟨hlegal, hqueues, hheld⟩ := hs
  obtain ⟨hready, hqueue⟩ := State.head_ready (q := .table) hqueues hhead
  have hnot := (s.takenHeld_iff.1 hheld).1 n
  simp only [hready, reduceCtorEq, false_iff, not_or, not_exists] at hnot
  refine ⟨State.cellBytesLegal_of_moves hm hlegal h,
    State.queuesExact_of_pop (q := .table) hqueues hhead hq h.kindOf ?_, ?_⟩
  · intro m
    rw [h.cellState hm]
    by_cases hmn : m = n <;> simp [hmn]
  · refine State.takenHeld_of_moves hm hheld h (fun m hmn => ⟨by rw [he], by simp [hh, hfree, Ne.symm hmn]⟩) ?_ ?_ ?_
    · simp [hh]
    · rw [he]
      exact fun h => absurd h hnot.1
    · intro j hj
      rw [hh] at hj
      cases hj
      refine ⟨hkind, fun hi => ?_⟩
      rw [hkind, hi] at hqueue
      simp [RequestKind.queue] at hqueue

/-- A cell that is not READY and not in READY's way: the queues stand as it passes to another state. -/
theorem State.queuesExact_of_moves {s t : State} {n : Fin 32} {c : CellState} (hm : s.memoryCanonical)
    (hs : s.queuesExact) (h : s.moves t n c) (hc : c ≠ .ready) (hn : s.cellState n ≠ .ready)
    (hq : ∀ q, t.intake.queue q = s.intake.queue q) : t.queuesExact :=
  State.queuesExact_of_same hs hq h.kindOf fun m => by
    rw [h.cellState hm]
    by_cases hmn : m = n
    · subst hmn
      simp [hc, hn]
    · simp [hmn]

/-- The verdict engine posts the cell it holds and is idle (R33). -/
theorem State.cellsSound_of_enginePost {s t : State} {n : Fin 32} (hm : s.memoryCanonical) (hs : s.cellsSound)
    (h : s.moves t n .done) (hq : ∀ q, t.intake.queue q = s.intake.queue q) (hheldBy : s.engineCell = some n)
    (he : t.engineCell = none) (hh : t.tableHolder = s.tableHolder) : t.cellsSound := by
  obtain ⟨hlegal, hqueues, hheld⟩ := hs
  have hiff := s.takenHeld_iff.1 hheld
  have hkind := hiff.2.1 n hheldBy
  have hnot (k : RequestKind) : s.tableHolder ≠ some (n, k) := fun hk => by
    obtain ⟨h₁, h₂⟩ := hiff.2.2 n k hk
    rw [hkind] at h₁
    exact h₂ (Option.some.inj h₁).symm
  have htaken : s.cellState n = .taken := (hiff.1 n).2 (.inl hheldBy)
  refine ⟨State.cellBytesLegal_of_moves hm hlegal h,
    State.queuesExact_of_moves hm hqueues h (by simp) (by simp [htaken]) hq, ?_⟩
  refine State.takenHeld_of_moves hm hheld h (fun m hmn => ⟨by simp [he, hheldBy, Ne.symm hmn], by simp [hh]⟩) ?_ ?_ ?_
  · simp [he, hh, hnot]
  · simp [he]
  · rw [hh]
    exact fun k hk => absurd hk (hnot k)

/-- The table unit posts the cell it holds and is free (R180). -/
theorem State.cellsSound_of_tablePost {s t : State} {n : Fin 32} {k : RequestKind} (hm : s.memoryCanonical)
    (hs : s.cellsSound) (h : s.moves t n .done) (hq : ∀ q, t.intake.queue q = s.intake.queue q)
    (hheldBy : s.tableHolder = some (n, k)) (he : t.engineCell = s.engineCell) (hh : t.tableHolder = none) :
    t.cellsSound := by
  obtain ⟨hlegal, hqueues, hheld⟩ := hs
  have hiff := s.takenHeld_iff.1 hheld
  obtain ⟨hkind, hinspect⟩ := hiff.2.2 n k hheldBy
  have hnot : s.engineCell ≠ some n := fun hn => by
    have := hiff.2.1 n hn
    rw [hkind] at this
    exact hinspect (Option.some.inj this)
  have htaken : s.cellState n = .taken := (hiff.1 n).2 (.inr ⟨k, hheldBy⟩)
  refine ⟨State.cellBytesLegal_of_moves hm hlegal h,
    State.queuesExact_of_moves hm hqueues h (by simp) (by simp [htaken]) hq, ?_⟩
  refine State.takenHeld_of_moves hm hheld h
    (fun m hmn => ⟨by rw [he], by simp [hh, hheldBy, Ne.symm hmn]⟩) ?_ ?_ ?_
  · simp [he, hh, hnot]
  · rw [he]
    exact fun h => absurd h hnot
  · simp [hh]

/-- Work that comes back to the table unit keeps the agreement. -/
theorem State.cellsSound_of_returnsTo {s t : State} (hm : s.memoryCanonical) (hs : s.cellsSound) (h : s.returnsTo t)
    (hq : ∀ q, t.intake.queue q = s.intake.queue q) (he : t.engineCell = s.engineCell) : t.cellsSound := by
  rcases h with ⟨⟨n, task⟩, hheld, h | ⟨h, task', hheld', hkind⟩⟩ | ⟨h, hheld⟩
  · obtain ⟨h, hnone⟩ := h
    exact State.cellsSound_of_tablePost (k := task.kind) hm hs h hq (by rw [State.tableHolder, hheld]; rfl) he
      (by rw [State.tableHolder, hnone]; rfl)
  · refine State.cellsSound_of_same hs h.tosameCells hq he ?_
    rw [State.tableHolder, State.tableHolder, hheld, hheld']
    exact congrArg some (congrArg (Prod.mk n) hkind)
  · exact State.cellsSound_of_same hs h.tosameCells hq he (by rw [State.tableHolder, State.tableHolder, hheld])

/-- A take of the table unit keeps the agreement. -/
theorem State.cellsSound_of_takesUp {s t : State} {n : Fin 32} {k : RequestKind} (hm : s.memoryCanonical)
    (hs : s.cellsSound) (hhead : s.tableHead k = some n) (h : s.takesUp t n k)
    (hq : ∀ p, t.intake.queue p = if p = .table then (s.intake.queue p).tail else s.intake.queue p)
    (he : t.engineCell = s.engineCell) : t.cellsSound := by
  unfold State.tableHead at hhead
  split at hhead
  · cases hhead
  next hfree =>
    rw [Option.filter_eq_some_iff, decide_eq_true_eq] at hhead
    obtain ⟨hhead, hkind⟩ := hhead
    have hnone : s.tableHolder = none := by
      rw [State.tableHolder, Option.not_isSome_iff_eq_none.mp hfree]
      rfl
    rcases h with ⟨h, hheld⟩ | ⟨h, task, hheld, htask⟩
    · exact State.cellsSound_of_answered (q := .table) hm hs hhead h hq he (by rw [hnone, State.tableHolder, hheld]; rfl)
    · refine State.cellsSound_of_tableTake hm hs hhead h hq hkind hnone he ?_
      rw [State.tableHolder, hheld]
      exact congrArg some (congrArg (Prod.mk n) htask)

end Sys2Proof.Machine
end

section
/-!
Host writes and resets: what each keeps of the cells, and with the engine's own steps the agreement of cells, queues and
servers through every step.
-/
namespace Sys2Proof.Machine

/-- Where memory is canonical in `s` it is in `t`, exact counts stay exact and sound cells sound. -/
def State.keepsCells (s t : State) : Prop :=
  s.memoryCanonical → t.memoryCanonical ∧ (s.countsExact → t.countsExact) ∧ (s.cellsSound → t.cellsSound)

theorem State.keepsCells.refl (s : State) : s.keepsCells s := fun h => ⟨h, id, id⟩

theorem State.keepsCells.trans {s t u : State} (h₁ : s.keepsCells t) (h₂ : t.keepsCells u) : s.keepsCells u := by
  intro hs
  obtain ⟨ht, hc, hcells⟩ := h₁ hs
  obtain ⟨hu, hc', hcells'⟩ := h₂ ht
  exact ⟨hu, hc' ∘ hc, hcells' ∘ hcells⟩

/-- A state with the same cells, queues and holders. -/
theorem State.keepsCells_of_same {s t : State} (h : s.sameCells t) (hq : ∀ q, t.intake.queue q = s.intake.queue q)
    (he : t.engineCell = s.engineCell) (hh : t.tableHolder = s.tableHolder) : s.keepsCells t := fun hs =>
  ⟨h.canonical hs, h.counts, fun hc => State.cellsSound_of_same hc h hq he hh⟩

theorem State.keepsCells_of_moves {s t : State} {n : Fin 32} {c : CellState} (h : s.moves t n c)
    (hcells : s.memoryCanonical → s.cellsSound → t.cellsSound) : s.keepsCells t := fun hs =>
  ⟨h.canonical hs, h.counts hs, hcells hs⟩

/-! ### A write to a state byte (Table 10-3) -/

/-- Host writes change one cell that no server holds: the queues follow its state, the holders stand. -/
theorem State.cellsSound_of_hostChange {s t : State} {n : Fin 32} {c : CellState} (hs : s.cellsSound)
    (hc : c ≠ .taken) (hn : s.cellState n ≠ .taken)
    (hbytes : ∀ m, t.mem.read (cellBase m) = if m = n then c.code else s.mem.read (cellBase m))
    (hkinds : ∀ m, m ≠ n → t.kindOf m = s.kindOf m) (he : t.engineCell = s.engineCell)
    (hh : t.tableHolder = s.tableHolder)
    (hqueues : ∀ q, (t.intake.queue q).Nodup ∧ ∀ m, m ∈ t.intake.queue q ↔
      if m = n then c = .ready ∧ (t.kindOf n).map RequestKind.queue = some q else m ∈ s.intake.queue q) :
    t.cellsSound := by
  obtain ⟨hlegal, hexact, hheld⟩ := hs
  have hcell (m : Fin 32) : t.cellState m = if m = n then c else s.cellState m := by
    simp only [State.cellState, hbytes]
    split
    · exact CellState.ofByte_code c
    · rfl
  refine ⟨fun m => ?_, ?_, ?_⟩
  · rw [hbytes]
    split
    · cases c <;> decide
    · exact hlegal m
  · rw [State.queuesExact_iff] at *
    intro q
    obtain ⟨hnodup, hmem⟩ := hqueues q
    refine ⟨hnodup, fun m => (hmem m).trans ?_⟩
    rw [hcell]
    by_cases hmn : m = n
    · rw [if_pos hmn, if_pos hmn, hmn]
    · rw [if_neg hmn, if_neg hmn, hkinds m hmn]
      exact (hexact q).2 m
  · rw [State.takenHeld_iff] at *
    obtain ⟨htaken, hengine, htable⟩ := hheld
    rw [he, hh]
    have hnot := (htaken n).not.1 hn
    rw [not_or, not_exists] at hnot
    refine ⟨fun m => ?_, fun m hm => ?_, fun m k hm => ?_⟩
    · rw [hcell]
      by_cases hmn : m = n
      · subst hmn
        simp [hc, hnot]
      · rw [if_neg hmn]
        exact htaken m
    · rw [hkinds m (by rintro rfl; exact hnot.1 hm)]
      exact hengine m hm
    · rw [hkinds m (by rintro rfl; exact hnot.2 k hm)]
      exact htable m k hm

/-- A cell that is not READY stands in no queue. -/
theorem State.not_mem_queue {s : State} (hs : s.queuesExact) {n : Fin 32} (hn : s.cellState n ≠ .ready) (q : QueueId) :
    n ∉ s.intake.queue q := fun h => hn (((s.queuesExact_iff.1 hs q).2 n).1 h).1

/-- The state with the kind byte of an arrival recorded (R174). -/
def State.recordKind (s : State) (n : Fin 32) (kind : Byte) : State :=
  { s with intake := { s.intake with arrivalKind := s.intake.arrivalKind.set n kind } }

/-- The state with an index at the tail of a queue (R176). -/
def State.enqueue (s : State) (q : QueueId) (n : Fin 32) : State :=
  { s with intake := s.intake.setQueue q (s.intake.queue q ++ [n]) }

/-- An arrival of a known kind (R174). -/
theorem State.arriveCell_of_known {s : State} {n : Fin 32} {k : RequestKind}
    (hk : RequestKind.ofByte (s.cellByte n Config.kindOffset) = some k) :
    s.arriveCell n =
      ((s.recordKind n (s.cellByte n Config.kindOffset)).enqueue k.queue n).setCellState n .ready := by
  simp only [State.arriveCell, hk]
  rfl

/-- An arrival of an unknown kind (R175). -/
theorem State.arriveCell_of_unknown {s : State} {n : Fin 32}
    (hk : RequestKind.ofByte (s.cellByte n Config.kindOffset) = none) :
    s.arriveCell n = (s.recordKind n (s.cellByte n Config.kindOffset)).post n [Outcome.badRequest, 0x01#8] := by
  simp only [State.arriveCell, hk]
  rfl

theorem State.kindOf_recordKind (s : State) (n m : Fin 32) (kind : Byte) :
    (s.recordKind n kind).kindOf m = if m = n then RequestKind.ofByte kind else s.kindOf m := by
  simp only [State.kindOf, State.recordKind, Fin.getElem_fin]
  by_cases hmn : m = n
  · subst hmn
    simp
  · rw [if_neg hmn, Vector.getElem_set_ne _ _ (fun h => hmn (Fin.ext h.symm))]

theorem State.queue_recordKind (s : State) (n : Fin 32) (kind : Byte) (q : QueueId) :
    (s.recordKind n kind).intake.queue q = s.intake.queue q := by cases q <;> rfl

/-- The arrival kind of an EMPTY cell enters no count. -/
theorem State.recordKind_countsExact {s : State} {n : Fin 32} (hn : s.cellState n = .empty) (kind : Byte)
    (hs : s.countsExact) : (s.recordKind n kind).countsExact := by
  have count (c : CellState) (hc : c ≠ .empty) (p : Option RequestKind → Bool) :
      s.countCells c p = (s.recordKind n kind).countCells c p := by
    refine List.countP_congr fun m _ => ?_
    rw [State.kindOf_recordKind, show (s.recordKind n kind).cellState m = s.cellState m from rfl]
    by_cases hmn : m = n
    · subst hmn
      simp [hn, hc.symm]
    · rw [if_neg hmn]
  obtain ⟨h₁, h₂, h₃, h₄⟩ := hs
  exact ⟨h₁.trans (count _ (by decide) _), h₂.trans (count _ (by decide) _), h₃.trans (count _ (by decide) _),
    h₄.trans (count _ (by decide) _)⟩

theorem State.enqueue_steady (s : State) (q : QueueId) (n : Fin 32) : s.steady (s.enqueue q n) :=
  .of_same rfl (Intake.setQueue_arrivalKind ..) rfl rfl rfl rfl

/-- An arrival of a known kind keeps the agreement: the READY cell joins its kind's queue. -/
theorem State.arriveCell_keepsCells_of_known {s : State} {n : Fin 32} {k : RequestKind} (hn : s.cellState n = .empty)
    (hk : RequestKind.ofByte (s.cellByte n Config.kindOffset) = some k) : s.keepsCells (s.arriveCell n) := by
  intro hs
  rw [State.arriveCell_of_known hk]
  have hmoves := (State.enqueue_steady (s.recordKind n (s.cellByte n Config.kindOffset)) k.queue n).trans_moves
    (State.setCellState_moves _ n .ready)
  refine ⟨hmoves.canonical hs, fun hc => hmoves.counts hs (State.recordKind_countsExact hn _ hc), fun hc => ?_⟩
  refine State.cellsSound_of_hostChange (c := .ready) hc (by simp) (by simp [hn]) (hmoves.cells hs)
    (fun m hm => by rw [hmoves.kindOf, State.kindOf_recordKind, if_neg hm]) rfl rfl fun q => ?_
  have hnodup := (s.queuesExact_iff.1 hc.2.1 q).1
  have hnot := State.not_mem_queue hc.2.1 (n := n) (by simp [hn]) q
  rw [hmoves.kindOf, State.kindOf_recordKind, if_pos rfl, hk, State.setCellState_intake, State.enqueue,
    Intake.queue_setQueue_eq]
  by_cases h : q = k.queue
  · subst h
    rw [if_pos rfl, State.queue_recordKind]
    refine ⟨List.nodup_append.2 ⟨hnodup, by simp, ?_⟩, fun m => ?_⟩
    · simp only [List.mem_singleton, forall_eq]
      exact fun m hm hmn => hnot (hmn ▸ hm)
    · by_cases hmn : m = n <;> simp [hmn]
  · rw [if_neg h, State.queue_recordKind]
    refine ⟨hnodup, fun m => ?_⟩
    by_cases hmn : m = n
    · subst hmn
      simp [hnot, Ne.symm h]
    · simp [hmn]

/-- An arrival of an unknown kind keeps the agreement: the cell is DONE and in no queue. -/
theorem State.arriveCell_keepsCells_of_unknown {s : State} {n : Fin 32} (hn : s.cellState n = .empty)
    (hk : RequestKind.ofByte (s.cellByte n Config.kindOffset) = none) : s.keepsCells (s.arriveCell n) := by
  intro hs
  rw [State.arriveCell_of_unknown hk]
  have hmoves := (s.recordKind n (s.cellByte n Config.kindOffset)).post_moves n [Outcome.badRequest, 0x01#8] none
  refine ⟨hmoves.canonical hs, fun hc => hmoves.counts hs (State.recordKind_countsExact hn _ hc), fun hc => ?_⟩
  refine State.cellsSound_of_hostChange (c := .done) hc (by simp) (by simp [hn]) (hmoves.cells hs)
    (fun m hm => by rw [hmoves.kindOf, State.kindOf_recordKind, if_neg hm])
    (by rw [State.engineCell, State.post_engine]; rfl) (by rw [State.tableHolder, State.post_table]; rfl) fun q => ?_
  have hnot := State.not_mem_queue hc.2.1 (n := n) (by simp [hn]) q
  rw [State.post_intake, State.queue_recordKind]
  refine ⟨(s.queuesExact_iff.1 hc.2.1 q).1, fun m => ?_⟩
  by_cases hmn : m = n
  · subst hmn
    simp [hnot]
  · simp [hmn]

theorem State.arriveCell_keepsCells {s : State} {n : Fin 32} (hn : s.cellState n = .empty) :
    s.keepsCells (s.arriveCell n) := by
  rcases hk : RequestKind.ofByte (s.cellByte n Config.kindOffset) with _ | k
  · exact State.arriveCell_keepsCells_of_unknown hn hk
  · exact State.arriveCell_keepsCells_of_known hn hk

/-- A queue without an index loses nothing with it. -/
theorem filter_ne_of_not_mem {l : List (Fin 32)} {n : Fin 32} (h : n ∉ l) : l.filter (fun m => decide (m ≠ n)) = l :=
  List.filter_eq_self.2 fun _ hm => decide_eq_true (by rintro rfl; exact h hm)

/-- A withdrawal keeps the agreement: the index leaves its queue (R177). -/
theorem State.withdrawCell_keepsCells {s : State} {n : Fin 32} (hn : s.cellState n = .ready) :
    s.keepsCells (s.withdrawCell n) := by
  have queue (hs : s.queuesExact) (q : QueueId) : (s.withdrawCell n).intake.queue q =
      (s.intake.queue q).filter fun m => decide (m ≠ n) := by
    unfold State.withdrawCell
    rw [State.setCellState_intake]
    have hmem := (s.queuesExact_iff.1 hs q).2 n
    rcases hk : s.kindOf n with _ | k
    · dsimp only
      rw [hk] at hmem
      simp only [Option.map_none, reduceCtorEq, and_false, iff_false] at hmem
      exact (filter_ne_of_not_mem hmem).symm
    · dsimp only
      rw [Intake.queue_setQueue_eq]
      split
      next h => rw [h]
      next h =>
        rw [hk] at hmem
        simp only [Option.map_some, Option.some.injEq, Ne.symm h, and_false, iff_false] at hmem
        exact (filter_ne_of_not_mem hmem).symm
  have hmoves : s.moves (s.withdrawCell n) n .empty := by
    unfold State.withdrawCell
    refine State.steady.trans_moves ?_ (State.setCellState_moves _ n .empty)
    split
    · exact .of_same rfl (Intake.setQueue_arrivalKind ..) rfl rfl rfl rfl
    · exact .refl s
  refine State.keepsCells_of_moves hmoves fun hs hc => ?_
  have holders : (s.withdrawCell n).engineCell = s.engineCell ∧ (s.withdrawCell n).tableHolder = s.tableHolder := by
    obtain ⟨m, q, F, N, h⟩ := s.withdrawCell_frame n
    rw [h]
    exact ⟨rfl, rfl⟩
  refine State.cellsSound_of_hostChange (c := .empty) hc (by simp) (by simp [hn]) (hmoves.cells hs)
    (fun m _ => hmoves.kindOf m) holders.1 holders.2 fun q => ?_
  rw [queue hc.2.1]
  refine ⟨((s.queuesExact_iff.1 hc.2.1 q).1).filter _, fun m => ?_⟩
  by_cases hmn : m = n <;> simp [hmn]

/-- A release keeps the agreement: a DONE cell stands in no queue and has no holder (R178). -/
theorem State.releaseCell_keepsCells {s : State} {n : Fin 32} (hn : s.cellState n = .done) :
    s.keepsCells (s.releaseCell n) := by
  have hmoves := s.setCellState_moves n .empty
  refine State.keepsCells_of_moves hmoves fun hs hc => ?_
  refine State.cellsSound_of_hostChange (c := .empty) hc (by simp) (by simp [hn]) (hmoves.cells hs)
    (fun m _ => hmoves.kindOf m) rfl rfl fun q => ⟨(s.queuesExact_iff.1 hc.2.1 q).1, fun m => ?_⟩
  have hnot := State.not_mem_queue hc.2.1 (n := n) (by simp [hn]) q
  by_cases hmn : m = n
  · subst hmn
    simpa [State.releaseCell] using hnot
  · simp [hmn, State.releaseCell]

theorem State.raise_keepsCells (s : State) (f : EventFlag) : s.keepsCells (s.raise f) :=
  State.keepsCells_of_same (s.raise_steady f).tosameCells (fun _ => rfl) rfl rfl

theorem State.writeStateByte_keepsCells (s : State) (n : Fin 32) (v : Byte) : s.keepsCells (s.writeStateByte n v) := by
  unfold State.writeStateByte
  split
  next hn =>
    split
    · exact .refl s
    · split
      · exact State.arriveCell_keepsCells hn
      · exact s.raise_keepsCells _
  next hn =>
    split
    · exact State.withdrawCell_keepsCells hn
    · split
      · exact .refl s
      · exact s.raise_keepsCells _
  next => exact .refl s
  next hn =>
    split
    · exact State.releaseCell_keepsCells hn
    · exact s.raise_keepsCells _

/-- A byte stored that is no state byte leaves the cells as they are. -/
theorem State.write_sameCells (s : State) {a : Nat} (b : Byte) (ha : a < Config.memoryEnd)
    (hplain : ¬ (a < Config.mirrorBase ∧ a % Config.cellSize = 0)) : s.sameCells { s with mem := s.mem.write a b } where
  kinds := rfl
  canonical h := Memory.wf_write b h ha
  cells m := Memory.read_write_of_ne _ _ fun h => by
    have := cellBase_lt m
    simp only [cellBase, Config.mirrorBase, Config.cellSize] at *
    omega
  ready := rfl
  done := rfl
  inspectDone := rfl
  otherDone := rfl

theorem State.writeByte_keepsCells (s : State) {a : Nat} (b : Byte) (ha : a < Config.memoryEnd) :
    s.keepsCells (s.writeByte a b) := by
  unfold State.writeByte
  split
  · exact s.writeStateByte_keepsCells _ b
  next hplain =>
    split
    · exact .refl s
    · split
      · exact s.raise_keepsCells _
      · exact State.keepsCells_of_same (s.write_sameCells b ha hplain) (fun _ => rfl) rfl rfl

theorem State.writeMemoryWord_keepsCells (s : State) {a : Nat} (data : Word) (lanes : Lanes) (ha : a < Config.memoryEnd)
    (heven : a % 2 = 0) : s.keepsCells (s.writeMemoryWord a data lanes) := by
  have high : s.keepsCells (if lanes.high then s.writeByte (a + 1) (highByte data) else s) := by
    split
    · exact s.writeByte_keepsCells _ (by simp only [Config.memoryEnd] at *; omega)
    · exact .refl s
  unfold State.writeMemoryWord
  dsimp only
  split
  · exact high.trans (State.writeByte_keepsCells _ _ ha)
  · exact high

/-! ### Resets -/

/-- A pass over some cells makes each TAKEN one of them DONE (R185). -/
theorem State.foldl_abortCell_cells (cells : List (Fin 32)) {s : State} (hs : s.memoryCanonical) (m : Fin 32) :
    (cells.foldl State.abortCell s).mem.read (cellBase m) =
      if m ∈ cells ∧ s.cellState m = .taken then CellState.done.code else s.mem.read (cellBase m) := by
  induction cells generalizing s with
  | nil => simp
  | cons n cells ih =>
    rw [List.foldl_cons, State.abortCell.eq_1 s n]
    split
    next hn =>
      have hmoves := s.post_moves n (s.abortedAnswer n) none
      rw [ih (hmoves.canonical hs), hmoves.cellState hs, hmoves.cells hs]
      by_cases hmn : m = n
      · subst hmn
        simp [hn]
      · simp [hmn]
    next hn =>
      rw [ih hs]
      by_cases hmn : m = n
      · subst hmn
        simp [hn]
      · simp [hmn]

theorem State.foldl_abortCell_keeps (cells : List (Fin 32)) (s : State) :
    (∀ a, Config.scratchBase ≤ a → (cells.foldl State.abortCell s).mem.read a = s.mem.read a) ∧
      (s.memoryCanonical → (cells.foldl State.abortCell s).memoryCanonical ∧
        (s.countsExact → (cells.foldl State.abortCell s).countsExact)) := by
  induction cells generalizing s with
  | nil => exact ⟨fun _ _ => rfl, fun h => ⟨h, id⟩⟩
  | cons n cells ih =>
    rw [List.foldl_cons, State.abortCell.eq_1 s n]
    split
    · have hmoves := s.post_moves n (s.abortedAnswer n) none
      obtain ⟨hhigh, hrest⟩ := ih (s.post n (s.abortedAnswer n))
      refine ⟨fun a ha => (hhigh a ha).trans (hmoves.high a ha), fun hs => ?_⟩
      obtain ⟨hm, hc⟩ := hrest (hmoves.canonical hs)
      exact ⟨hm, hc ∘ hmoves.counts hs⟩
    · exact ih s

theorem State.abortTaken_keeps (s : State) :
    (∀ a, Config.scratchBase ≤ a → s.abortTaken.mem.read a = s.mem.read a) ∧
      (s.memoryCanonical → s.abortTaken.memoryCanonical ∧ (s.countsExact → s.abortTaken.countsExact)) := by
  unfold State.abortTaken
  exact State.foldl_abortCell_keeps _ s

/-- The ABORTED answers leave no cell TAKEN (R185). -/
theorem State.abortTaken_cells {s : State} (hs : s.memoryCanonical) (m : Fin 32) :
    s.abortTaken.mem.read (cellBase m) =
      if s.cellState m = .taken then CellState.done.code else s.mem.read (cellBase m) := by
  rw [State.abortTaken, State.foldl_abortCell_cells _ hs]
  simp only [List.mem_finRange, true_and]

theorem State.abortTaken_cellState {s : State} (hs : s.memoryCanonical) (m : Fin 32) :
    s.abortTaken.cellState m = if s.cellState m = .taken then .done else s.cellState m := by
  rw [State.cellState, State.abortTaken_cells hs]
  split
  · rfl
  · rfl

theorem State.mem_readyCells (s : State) (q : QueueId) (n : Fin 32) :
    n ∈ s.readyCells q ↔ s.cellState n = .ready ∧ (s.kindOf n).map RequestKind.queue = some q := by
  simp [State.readyCells]

theorem State.readyCells_nodup (s : State) (q : QueueId) : (s.readyCells q).Nodup := (List.nodup_finRange 32).filter _

theorem State.resetBlocks_steady (s : State) : s.steady s.rebuildQueues.resetBlocks.rewriteMirror := by
  refine State.steady.trans ?_ (State.rewriteMirror_steady _)
  exact .of_same rfl rfl rfl rfl rfl rfl

theorem State.resetBlocks_queue (s : State) (q : QueueId) :
    s.rebuildQueues.resetBlocks.rewriteMirror.intake.queue q = s.readyCells q := by cases q <;> rfl

/-- What an engine reset writes after the ABORTED answers leaves the cells alone. -/
theorem State.engineReset_sameCells (s : State) : s.abortTaken.steady s.engineReset := State.resetBlocks_steady _

/-- An engine reset leaves the cells sound whatever stood in the queues (R185, R186). -/
theorem State.engineReset_keepsCells (s : State) : s.keepsCells s.engineReset := by
  intro hs
  obtain ⟨hm, hc⟩ := s.abortTaken_keeps.2 hs
  have hsame := s.engineReset_sameCells
  refine ⟨hsame.canonical hm, fun h => hsame.counts (hc h), fun ⟨hlegal, _, _⟩ => ⟨fun n => ?_, ?_, ?_⟩⟩
  · rw [hsame.cells, State.abortTaken_cells hs]
    split
    · decide
    · exact hlegal n
  · rw [State.queuesExact_iff]
    intro q
    have hq : s.engineReset.intake.queue q = s.abortTaken.readyCells q :=
      State.resetBlocks_queue s.abortTaken q
    simp only [State.queueExact, hq, hsame.cellState, hsame.kindOf]
    exact ⟨State.readyCells_nodup _ _, fun n => State.mem_readyCells _ _ _⟩
  · rw [State.takenHeld_iff]
    obtain ⟨m, i, j, u, N, h⟩ := s.engineReset_frame
    have he : s.engineReset.engineCell = none := by rw [h]; rfl
    have hh : s.engineReset.tableHolder = none := by rw [h]; rfl
    simp only [he, hh, hsame.cellState, State.abortTaken_cellState hs]
    refine ⟨fun n => ?_, by simp, by simp⟩
    by_cases h : s.cellState n = .taken <;> simp [h]

theorem State.powerOn_keepsCells (s : State) : s.keepsCells s.powerOn := fun _ => by
  obtain ⟨hm, hlegal, hqueues, htaken, hcounts, -⟩ := resetMeetsInvariants
  exact ⟨hm, fun _ => hcounts, fun _ => ⟨hlegal, hqueues, htaken⟩⟩

theorem State.writeEventEnable_steady (s : State) (data : Word) (lanes : Lanes) :
    s.steady (s.writeEventEnable data lanes) := .of_same rfl rfl rfl rfl rfl rfl

/-- A host access keeps the agreement, whatever it addresses. -/
theorem State.access_keepsCells (s : State) {a : Nat} (data : Word) (lanes : Lanes) (heven : a % 2 = 0) :
    s.keepsCells (s.access a data lanes) := by
  have control : s.keepsCells { s with notice := s.notice.control data } :=
    State.keepsCells_of_same (s.control_steady data).tosameCells (fun _ => rfl) rfl rfl
  rcases s.access_cases a data lanes with ⟨ha, h⟩ | ⟨-, h⟩ | ⟨-, h⟩ | ⟨-, h⟩ | ⟨-, -, -, -, h⟩ <;> rw [h]
  · exact s.writeMemoryWord_keepsCells data lanes ha heven
  · cases hw : resetWrite data lanes with
    | true =>
      rw [State.writeEngControl_of_resetWrite _ hw]
      exact control.trans (State.engineReset_keepsCells _)
    | false =>
      rw [State.writeEngControl_of_not_resetWrite _ hw]
      split
      · exact control
      · exact .refl s
  · obtain ⟨m, h⟩ := s.clearEvents_frame data lanes
    have hsame := (s.clearEvents_steady data lanes).tosameCells
    rw [h] at hsame ⊢
    exact State.keepsCells_of_same hsame (fun _ => rfl) rfl rfl
  · exact State.keepsCells_of_same (t := s.writeEventEnable data lanes)
      (s.writeEventEnable_steady data lanes).tosameCells (fun _ => rfl) rfl rfl
  · exact .refl s

end Sys2Proof.Machine
end

section
/-!
Every step keeps the cells, the queues and the counts in agreement; and what the guards hold of memory.
-/
namespace Sys2Proof.Machine

/-! ### The heads of the queues -/

theorem State.head_of_journeyHead {s : State} {k : RequestKind} {n : Fin 32} (h : s.journeyHead k = some n) :
    s.intake.journey.head? = some n ∧ s.kindOf n = some k := by
  rw [State.journeyHead, Option.filter_eq_some_iff, decide_eq_true_eq] at h
  exact h

theorem State.head_of_eventHead {s : State} {e : Byte} {n : Fin 32} (h : s.eventHead e = some n) :
    s.journeyHead .journey = some n ∧ s.journeyEvent n = e := by
  rw [State.eventHead, Option.filter_eq_some_iff, decide_eq_true_eq] at h
  exact h

theorem State.head_of_badEventHead {s : State} {n : Fin 32} (h : s.badEventHead = some n) :
    s.journeyHead .journey = some n := by
  rw [State.badEventHead, Option.filter_eq_some_iff] at h
  exact h.1

theorem State.head_of_tableHead {s : State} {k : RequestKind} {n : Fin 32} (h : s.tableHead k = some n) :
    s.table.held = none ∧ s.intake.table.head? = some n ∧ s.kindOf n = some k := by
  unfold State.tableHead at h
  split at h
  · cases h
  next hfree =>
    rw [Option.filter_eq_some_iff, decide_eq_true_eq] at h
    exact ⟨Option.not_isSome_iff_eq_none.mp hfree, h⟩

/-! ### The engine's cell -/

/-- A lookup served leaves the inspection in its cell. -/
theorem State.serveEngineLookup_engineCell (s : State) (media day : Nat) :
    (s.serveEngineLookup media day).engineCell = s.engineCell := by
  unfold State.serveEngineLookup
  dsimp only
  split
  next f hf =>
    split
    · obtain ⟨g, hcell, -, h⟩ := State.afterDenyLookup_spec { s with deny := { s.deny with engineLookup := none } } f
        (denyHit s.deny.list media day)
      rw [h]
      simp only [State.engineCell, State.completeDeny_engine, hf, Option.map_some, hcell]
    · rfl
  next => rfl

/-- A result of the check unit leaves the inspection in its cell. -/
theorem State.engineResult_engineCell (s : State) (result : Word) :
    (s.engineResult result).engineCell = s.engineCell := by
  unfold State.engineResult
  split
  · rfl
  next f hf =>
    split
    · obtain ⟨g, hcell, -, -, -, h⟩ := s.afterImageCheck_spec f result
      rw [h]
      simp only [State.engineCell, hf, Option.map_some, hcell]
    · simp only [State.engineCell, State.setFlight_engine, hf, Option.map_some]
    · rfl
    · rfl

theorem State.endJob_engineCell (s : State) : s.endJob.engineCell = s.engineCell := by
  unfold State.endJob
  split
  · dsimp only
    rw [State.engineResult_engineCell]
    rfl
  · dsimp only
    generalize s.pieceRemainder .. = residue
    obtain ⟨m, u, j, e, N, h⟩ := State.tableResult_frame
      ({ s with check := { s.check with serving := none, tableJob := none } }).chooseCheck residue
    rw [h]
    rfl
  · rfl

/-! ### Every step -/

theorem State.keepsCells_of_steady {s t : State} (h : s.steady t) (hq : t.intake = s.intake)
    (he : t.engine = s.engine) (hh : t.table = s.table) : s.keepsCells t :=
  State.keepsCells_of_same h.tosameCells (fun _ => by rw [hq]) (by rw [State.engineCell, State.engineCell, he])
    (by rw [State.tableHolder, State.tableHolder, hh])

theorem State.keepsCells.settled {s t : State} (h : s.keepsCells t) : s.keepsCells t.settled :=
  h.trans (State.keepsCells_of_steady t.settled_steady rfl rfl rfl)

theorem State.keepsCells.driveNote {s t : State} (h : s.keepsCells t) : s.keepsCells t.driveNote :=
  h.trans (State.keepsCells_of_steady t.driveNote_steady rfl rfl rfl)

theorem State.keepsCells.advanceDeny {s t : State} (h : s.keepsCells t) : s.keepsCells t.advanceDeny :=
  h.trans (State.keepsCells_of_steady t.advanceDeny_steady rfl rfl rfl)

theorem State.keepsCells.beginLookup {s t : State} (h : s.keepsCells t) : s.keepsCells t.beginLookup :=
  h.trans (State.keepsCells_of_steady t.beginLookup_steady rfl rfl rfl)

theorem State.keepsCells.chooseCheck {s t : State} (h : s.keepsCells t) : s.keepsCells t.chooseCheck :=
  h.trans (State.keepsCells_of_steady t.chooseCheck_steady rfl rfl rfl)

theorem State.keepsCells_of_returnsTo {s t : State} (h : s.returnsTo t) (hq : t.intake = s.intake)
    (he : t.engineCell = s.engineCell) : s.keepsCells t := by
  intro hs
  refine ⟨?_, ?_, fun hc => State.cellsSound_of_returnsTo hs hc h (fun _ => by rw [hq]) he⟩
  · rcases h with ⟨x, hx, ⟨h, -⟩ | ⟨h, -⟩⟩ | ⟨h, -⟩ <;> exact h.canonical hs
  · rcases h with ⟨x, hx, ⟨h, -⟩ | ⟨h, -⟩⟩ | ⟨h, -⟩
    · exact h.counts hs
    · exact h.counts
    · exact h.counts

theorem State.keepsCells_of_takesUp {s t : State} {n : Fin 32} {k : RequestKind} (hhead : s.tableHead k = some n)
    (h : s.takesUp t n k) (hq : t.intake = { s.intake with table := s.intake.table.tail })
    (he : t.engine = s.engine) : s.keepsCells t := by
  intro hs
  refine ⟨?_, ?_, fun hc => State.cellsSound_of_takesUp hs hc hhead h (fun p => by rw [hq]; cases p <;> rfl)
    (by rw [State.engineCell, State.engineCell, he])⟩
  · rcases h with ⟨h, -⟩ | ⟨h, -⟩ <;> exact h.canonical hs
  · rcases h with ⟨h, -⟩ | ⟨h, -⟩ <;> exact h.counts hs

/-- A request of the journey queue, answered in the event that takes it. -/
theorem State.keepsCells_of_journey {s t : State} {n : Fin 32} {k : RequestKind} (hhead : s.journeyHead k = some n)
    (h : s.moves t n .done) (hq : t.intake = { s.intake with journey := s.intake.journey.tail })
    (he : t.engine = s.engine) (hh : t.table.held = s.table.held) : s.keepsCells t :=
  State.keepsCells_of_moves h fun hm hs => State.cellsSound_of_answered (q := .journey) hm hs
    (State.head_of_journeyHead hhead).1 h (fun p => by rw [hq]; cases p <;> rfl)
    (by rw [State.engineCell, State.engineCell, he]) (by rw [State.tableHolder, State.tableHolder, hh])

theorem Run.keepsCells {s t : State} {c : Instr} (h : Run s c t) : s.keepsCells t := by
  cases h with
  | absent => exact .refl s
  | powerOn => exact s.powerOn_keepsCells.driveNote.settled
  | access hc => exact (s.access_keepsCells _ _ (even_of_hostAccess hc)).driveNote.settled
  | ignored => exact (State.keepsCells.refl s).settled
  | mirrorRead lanes =>
    refine State.keepsCells.settled (State.keepsCells_of_steady ?_ rfl rfl rfl)
    exact .of_same rfl rfl rfl rfl rfl rfl
  | clockEdge =>
    obtain ⟨m, k, d, F, h⟩ := s.clockEdge_frame
    exact (State.keepsCells_of_steady s.clockEdge_steady (by rw [h]) (by rw [h]) (by rw [h])).driveNote.settled
  | loseClock =>
    obtain ⟨m, F, h⟩ := s.loseClock_frame
    exact (State.keepsCells_of_steady s.loseClock_steady (by rw [h]) (by rw [h]) (by rw [h])).driveNote.settled
  | @inspect n hhead hmay =>
    obtain ⟨f, hcell, -, -, -, h⟩ := (s.take .inspection n).beginInspection_spec n
    have hmoves : s.moves ((s.take .inspection n).beginInspection n) n .taken :=
      State.take_then_steady .inspection (State.beginInspection_steady _ n)
    refine State.keepsCells.settled (.driveNote (State.keepsCells_of_moves hmoves fun hm hs => ?_))
    refine State.cellsSound_of_engineTake hm hs hhead hmoves (fun p => ?_) ?_ ?_ ?_
    · rw [h]
      cases p <;> rfl
    · have : s.engine.flight.isNone = true := by
        simp only [State.mayInspect, Bool.and_eq_true] at hmay
        exact hmay.1.1
      rw [State.engineCell, Option.isNone_iff_eq_none.mp this]
      rfl
    · rw [h]
      exact congrArg some hcell
    · rw [h]
      rfl
  | @inspectCompletion f v hflight =>
    have hmoves := s.completeInspection_moves f v
    obtain ⟨m, r, l, F, N, h⟩ := s.completeInspection_frame f v
    refine State.keepsCells.settled (.driveNote (State.keepsCells_of_moves hmoves fun hm hs => ?_))
    refine State.cellsSound_of_enginePost hm hs hmoves (fun q => by rw [h]) ?_ ?_ ?_
    · rw [State.engineCell, hflight]
      rfl
    · rw [h]
      rfl
    · rw [h]
      rfl
  | checkJobEnd =>
    obtain ⟨m, f, u, l, e, k, N, h⟩ := s.chooseCheck.endJob_frame
    refine State.keepsCells.driveNote (.advanceDeny ((State.keepsCells.refl s).chooseCheck.trans ?_))
    exact State.keepsCells_of_returnsTo (State.endJob_returnsTo _) (by rw [h]) (State.endJob_engineCell _)
  | checkPieceEnd =>
    obtain ⟨u, h⟩ := s.chooseCheck.endPiece_frame
    refine State.keepsCells.settled (.driveNote ((State.keepsCells.refl s).chooseCheck.trans ?_))
    exact State.keepsCells_of_steady (State.endPiece_steady _) (by rw [h]) (by rw [h]) (by rw [h])
  | @engineLookup media day =>
    obtain ⟨f, l, r, h⟩ := s.serveEngineLookup_frame media day
    refine State.keepsCells.settled (.driveNote ?_)
    exact State.keepsCells_of_same (s.serveEngineLookup_steady media day).tosameCells (fun _ => by rw [h])
      (s.serveEngineLookup_engineCell media day) (by rw [h]; rfl)
  | @probeLookup media =>
    obtain ⟨m, u, N, h⟩ := s.serveProbe_frame media
    exact (State.keepsCells_of_returnsTo (s.serveProbe_returnsTo media) (by rw [h]) (by rw [h]; rfl)).driveNote.settled
  | @add media reason expiry =>
    obtain ⟨m, u, d, F, N, h⟩ := s.applyAdd_frame media reason expiry
    exact (State.keepsCells_of_returnsTo (s.applyAdd_returnsTo media reason expiry) (by rw [h])
      (by rw [h]; rfl)).chooseCheck.beginLookup.driveNote
  | @delete media =>
    obtain ⟨m, u, d, N, h⟩ := s.applyDelete_frame media
    exact (State.keepsCells_of_returnsTo (s.applyDelete_returnsTo media) (by rw [h])
      (by rw [h]; rfl)).chooseCheck.beginLookup.driveNote
  | clear =>
    obtain ⟨m, u, d, N, h⟩ := s.applyClear_frame
    exact (State.keepsCells_of_returnsTo s.applyClear_returnsTo (by rw [h])
      (by rw [h]; rfl)).chooseCheck.beginLookup.driveNote
  | sweepStep =>
    obtain ⟨m, h⟩ := s.applySweepStep_frame
    exact (State.keepsCells_of_steady s.applySweepStep_steady (by rw [h]) (by rw [h]) (by rw [h])).driveNote.settled
  | @depart n hhead =>
    obtain ⟨m, k, N, h⟩ := s.serveDepart_frame n
    exact (State.keepsCells_of_journey (State.head_of_eventHead hhead).1 (s.serveDepart_moves n) (by rw [h]) (by rw [h])
      (by rw [h])).driveNote.settled
  | @arrive n hhead =>
    obtain ⟨m, k, p, r, cap, v, l, F, N, h⟩ := s.serveArrive_frame n
    exact (State.keepsCells_of_journey (State.head_of_eventHead hhead).1 (s.serveArrive_moves n) (by rw [h]) (by rw [h])
      (by rw [h])).driveNote.settled
  | @pass n hhead =>
    obtain ⟨m, p, r, cap, l, F, N, h⟩ := s.servePass_frame n
    exact (State.keepsCells_of_journey (State.head_of_eventHead hhead).1 (s.servePass_moves n) (by rw [h]) (by rw [h])
      (by rw [h])).driveNote.settled
  | @set n hhead =>
    obtain ⟨m, k, p, v, F, N, h⟩ := s.serveSet_frame n
    exact (State.keepsCells_of_journey (State.head_of_eventHead hhead).1 (s.serveSet_moves n) (by rw [h]) (by rw [h])
      (by rw [h])).driveNote.settled
  | @badEvent n hhead =>
    obtain ⟨m, N, h⟩ := s.serveBadEvent_frame n
    exact (State.keepsCells_of_journey (State.head_of_badEventHead hhead) (s.refuseJourney_moves n _) (by rw [← State.serveBadEvent, h])
      (by rw [← State.serveBadEvent, h]) (by rw [← State.serveBadEvent, h])).driveNote.settled
  | @clockSet n hhead =>
    obtain ⟨m, k, d, F, N, h⟩ := s.serveClockSet_frame n
    exact (State.keepsCells_of_journey hhead (s.serveClockSet_moves n) (by rw [h]) (by rw [h])
      (by rw [h])).driveNote.settled
  | @serviceOpen n hhead =>
    obtain ⟨m, u, j, N, h⟩ := s.chooseCheck.takeOpen_frame n
    refine State.keepsCells.driveNote (.advanceDeny ((State.keepsCells.refl s).chooseCheck.trans ?_))
    exact State.keepsCells_of_takesUp hhead (State.takeOpen_takesUp _ n) (by rw [h]) (by rw [h])
  | @serviceOpenCompletion n table entry hheld =>
    obtain ⟨m, F, N, h⟩ := s.completeOpen_frame n
    exact (State.keepsCells_of_returnsTo (.inl ⟨_, hheld, s.completeOpen_carriesOn n⟩) (by rw [h])
      (by rw [h]; rfl)).driveNote.settled
  | @serviceClose n hhead =>
    obtain ⟨m, j, u, l, F, N, h⟩ := s.takeClose_frame n
    exact (State.keepsCells_of_takesUp hhead (s.takeClose_takesUp n) (by rw [h]) (by rw [h])).driveNote.settled
  | @serviceCloseCompletion n hheld =>
    obtain ⟨m, F, N, h⟩ := s.completeClose_frame n
    exact (State.keepsCells_of_returnsTo (.inl ⟨_, hheld, s.completeClose_carriesOn n⟩) (by rw [h])
      (by rw [h]; rfl)).driveNote.settled
  | @denyBatch n hhead =>
    obtain ⟨m, u, j, N, h⟩ := s.chooseCheck.takeBatch_frame n
    refine State.keepsCells.driveNote (.advanceDeny ((State.keepsCells.refl s).chooseCheck.trans ?_))
    exact State.keepsCells_of_takesUp hhead (State.takeBatch_takesUp _ n) (by rw [h]) (by rw [h])
  | @denyProbe n hhead =>
    obtain ⟨m, N, h⟩ := s.takeProbe_frame n
    exact (State.keepsCells_of_takesUp hhead (s.takeProbe_takesUp n) (by rw [h]) (by rw [h])).driveNote.settled

/-- What is kept by the commands and by a moment with no command is kept by a step. -/
theorem step_induction {p : State → State → Prop} (hidle : ∀ s : State, p s s.idle)
    (hrun : ∀ (s : State) (c : Instr) (rest : List Instr) (t : State), Run { s with pending := rest } c t → p s t)
    {s t : State} (h : step s = .next t) : p s t := by
  rcases step_cases h with rfl | ⟨c, rest, hr⟩
  · exact hidle s
  · exact hrun s c rest t hr

/-- Settles O49: every command moves at most one cell, with its queue and its holder. -/
theorem stepKeepsCellsQueuesAndCounts : Obligations.StepKeepsCellsQueuesAndCounts := by
  intro s t hm h
  have kept : s.keepsCells t := step_induction (p := State.keepsCells)
    (fun s => State.keepsCells_of_steady s.idle_steady rfl rfl rfl) (fun _ _ _ _ hr => hr.keepsCells) h
  obtain ⟨hm', hc, hcells⟩ := kept hm
  exact ⟨hm', hc, fun h₁ h₂ h₃ => hcells ⟨h₁, h₂, h₃⟩⟩

end Sys2Proof.Machine
end

section
/-!
The guards (R148, R182, R183): which bytes a host access can change, and that no other command changes a byte from the
scratch area up.
-/
namespace Sys2Proof.Machine

/-! ### The bytes of one cell -/

/-- The address lies in a cell. -/
abbrev inCell (n : Fin 32) (a : Nat) : Prop := cellBase n ≤ a ∧ a < cellBase n + Config.cellSize

theorem State.sameBytesBut.of_mem {s t : State} {p : Nat → Prop} (h : t.mem = s.mem) : s.sameBytesBut t p :=
  fun _ _ => by rw [h]

theorem State.sameBytesBut.trans {s t u : State} {p : Nat → Prop} (h₁ : s.sameBytesBut t p) (h₂ : t.sameBytesBut u p) :
    s.sameBytesBut u p := fun a ha => (h₂ a ha).trans (h₁ a ha)

theorem State.sameBytesBut.mono {s t : State} {p q : Nat → Prop} (h : s.sameBytesBut t p) (hpq : ∀ a, p a → q a) :
    s.sameBytesBut t q := fun a ha => h a (ha ∘ hpq a)

theorem State.setCellState_inCell (s : State) (n : Fin 32) (c : CellState) :
    s.sameBytesBut (s.setCellState n c) (inCell n) :=
  (s.setCellState_sameBytesBut n c).mono fun a ha => ⟨ha.ge, by simp only [Config.cellSize]; omega⟩

theorem State.post_inCell (s : State) (n : Fin 32) (answer : List Byte) (body : Option (List Byte)) :
    s.sameBytesBut (s.post n answer body) (inCell n) := by
  refine (s.post_sameBytesBut n answer body).mono fun a ha => ?_
  simp only [inCell, inAnswer, inBody, Config.answerOffset, Config.bodyOffset, Config.cellSize] at ha ⊢
  omega

/-- A write to a state byte changes no byte of another cell, and none outside the cells. -/
theorem State.writeStateByte_inCell (s : State) (n : Fin 32) (v : Byte) :
    s.sameBytesBut (s.writeStateByte n v) (inCell n) := by
  unfold State.writeStateByte
  split
  · split
    · exact .of_mem rfl
    · split
      · rcases hk : RequestKind.ofByte (s.cellByte n Config.kindOffset) with _ | k
        · rw [State.arriveCell_of_unknown hk]
          exact State.post_inCell (s.recordKind n _) n _ none
        · rw [State.arriveCell_of_known hk]
          exact State.setCellState_inCell ((s.recordKind n _).enqueue k.queue n) n .ready
      · exact .of_mem rfl
  · split
    · unfold State.withdrawCell
      dsimp only
      split
      · exact State.setCellState_inCell { s with intake := _ } n .empty
      · exact State.setCellState_inCell s n .empty
    · split <;> exact .of_mem rfl
  · exact .of_mem rfl
  · split
    · exact s.setCellState_inCell n .empty
    · exact .of_mem rfl

theorem cellOf_cellBase (n : Fin 32) : cellOf (cellBase n) = n := by
  simp only [cellOf, cellBase, Config.cellSize]
  ext
  simp

/-- An address below the mirror lies in the cell it names. -/
theorem inCell_cellOf {a : Nat} (ha : a < Config.mirrorBase) : inCell (cellOf a) a := by
  simp only [inCell, cellOf, cellBase, Config.cellSize, Config.mirrorBase, Fin.ofNat_eq_cast] at *
  rw [Fin.val_natCast]
  omega

theorem cellOf_of_inCell {n : Fin 32} {a : Nat} (h : inCell n a) : cellOf a = n := by
  simp only [inCell, cellOf, cellBase, Config.cellSize] at *
  ext
  simp
  omega

/-! ### Host accesses -/

/-- A byte written changes no byte but its own, or those of the cell whose state byte it is. -/
theorem State.writeByte_sameBytesBut (s : State) (a : Nat) (b : Byte) :
    s.sameBytesBut (s.writeByte a b)
      (fun x => x = a ∧ s.guarded a = false ∨ a < Config.mirrorBase ∧ a % Config.cellSize = 0 ∧ inCell (cellOf a) x) := by
  unfold State.writeByte
  split
  next hstate =>
    refine (s.writeStateByte_inCell _ b).mono fun x hx => .inr ⟨hstate.1, hstate.2, hx⟩
  next =>
    split
    · exact .of_mem rfl
    · split
      · exact .of_mem rfl
      next hguard =>
        exact fun x hx => Memory.read_write_of_ne _ _ fun h => hx (.inl ⟨h, Bool.eq_false_of_not_eq_true hguard⟩)

/-- From the scratch area up a guard asks the table unit alone. -/
theorem State.guarded_congr {s t : State} (h : t.table = s.table) {a : Nat} (ha : Config.scratchBase ≤ a) :
    t.guarded a = s.guarded a := by
  have : ¬ a < Config.mirrorBase := by simp only [Config.scratchBase, Config.mirrorBase] at *; omega
  simp only [State.guarded, if_neg this, h]

/-- From the scratch area up an access changes the bytes it addresses, and those only where no guard holds them. -/
theorem State.writeMemoryWord_read (s : State) (a : Nat) (data : Word) (lanes : Lanes) {x : Nat}
    (hx : Config.scratchBase ≤ x) (h : s.guarded x = true ∨ x ≠ a ∧ x ≠ a + 1) :
    (s.writeMemoryWord a data lanes).mem.read x = s.mem.read x := by
  have byte (s' : State) (ht : s'.table = s.table) (y : Nat) (hy : y = a ∨ y = a + 1) (b : Byte) :
      (s'.writeByte y b).mem.read x = s'.mem.read x := by
    refine s'.writeByte_sameBytesBut y b x fun hc => ?_
    rcases hc with ⟨rfl, hguard⟩ | ⟨hlow, -, hin⟩
    · rw [State.guarded_congr ht hx] at hguard
      rcases h with h | ⟨h₁, h₂⟩
      · rw [hguard] at h
        cases h
      · rcases hy with hy | hy
        · exact h₁ hy
        · exact h₂ hy
    · have := cellBase_lt (cellOf y)
      simp only [inCell, Config.scratchBase, Config.mirrorBase, Config.cellSize] at *
      omega
  have high : (if lanes.high then s.writeByte (a + 1) (highByte data) else s).mem.read x = s.mem.read x ∧
      (if lanes.high then s.writeByte (a + 1) (highByte data) else s).table = s.table := by
    split
    · obtain ⟨m, q, F, N, hf⟩ := s.writeByte_frame (a + 1) (highByte data)
      exact ⟨byte s rfl _ (.inr rfl) _, by rw [hf]⟩
    · exact ⟨rfl, rfl⟩
  unfold State.writeMemoryWord
  dsimp only
  split
  · exact (byte _ high.2 _ (.inl rfl) _).trans high.1
  · exact high.1

/-- No byte of a TAKEN cell changes with a byte written. -/
theorem State.writeByte_taken {s : State} {n : Fin 32} (hn : s.cellState n = .taken) (a : Nat) (b : Byte) {x : Nat}
    (hx : inCell n x) : (s.writeByte a b).mem.read x = s.mem.read x := by
  have same : cellOf x = n := cellOf_of_inCell hx
  have below : x < Config.mirrorBase := by
    have := cellBase_lt n
    simp only [inCell, Config.cellSize, Config.mirrorBase] at *
    omega
  by_cases ha : a < Config.mirrorBase ∧ a % Config.cellSize = 0 ∧ cellOf a = n
  · obtain ⟨h₁, h₂, h₃⟩ := ha
    rw [State.writeByte, if_pos ⟨h₁, h₂⟩, h₃, State.writeStateByte, hn]
  · refine s.writeByte_sameBytesBut a b x fun hc => ?_
    rcases hc with ⟨rfl, hguard⟩ | ⟨h₁, h₂, h₃⟩
    · rw [State.guarded, if_pos below, same, hn] at hguard
      simp at hguard
    · exact ha ⟨h₁, h₂, (cellOf_of_inCell h₃).symm.trans same⟩

theorem State.writeMemoryWord_taken {s : State} {n : Fin 32} (hn : s.cellState n = .taken) (a : Nat) (data : Word)
    (lanes : Lanes) {x : Nat} (hx : inCell n x) : (s.writeMemoryWord a data lanes).mem.read x = s.mem.read x := by
  have base : inCell n (cellBase n) := ⟨le_rfl, by simp only [Config.cellSize]; omega⟩
  have high (y : Nat) (hy : inCell n y) :
      (if lanes.high then s.writeByte (a + 1) (highByte data) else s).mem.read y = s.mem.read y := by
    split
    · exact State.writeByte_taken hn _ _ hy
    · rfl
  have taken : (if lanes.high then s.writeByte (a + 1) (highByte data) else s).cellState n = .taken :=
    (State.cellState_congr (high _ base)).trans hn
  unfold State.writeMemoryWord
  dsimp only
  split
  · exact (State.writeByte_taken taken _ _ hx).trans (high x hx)
  · exact high x hx

/-- A clear of flags changes no byte outside the mirror. -/
theorem State.clearEvents_sameBytesBut (s : State) (data : Word) (lanes : Lanes) :
    s.sameBytesBut (s.clearEvents data lanes) inMirror := by
  unfold State.clearEvents
  split
  · exact State.rewriteMirror_sameBytesBut (s.writeEventFlags data lanes)
  · exact .of_mem rfl

theorem State.engineReset_high (s : State) {x : Nat} (hx : Config.scratchBase ≤ x) :
    s.engineReset.mem.read x = s.mem.read x :=
  (s.engineReset_sameCells.high x hx).trans (s.abortTaken_keeps.1 x hx)

/-- A register write changes no byte from the scratch area up. -/
theorem State.access_high (s : State) {a : Nat} (data : Word) (lanes : Lanes) (ha : ¬ a < Config.memoryEnd) {x : Nat}
    (hx : Config.scratchBase ≤ x) : (s.access a data lanes).mem.read x = s.mem.read x := by
  rcases s.access_cases a data lanes with ⟨h, -⟩ | ⟨-, h⟩ | ⟨-, h⟩ | ⟨-, h⟩ | ⟨-, -, -, -, h⟩
  · exact absurd h ha
  · rw [h]
    cases hw : resetWrite data lanes with
    | true => rw [State.writeEngControl_of_resetWrite _ hw, State.engineReset_high _ hx]
    | false => rw [State.writeEngControl_of_not_resetWrite _ hw]
  · rw [h]
    refine s.clearEvents_sameBytesBut data lanes x fun hm => ?_
    simp only [inMirror] at hm
    omega
  · rw [h]
    rfl
  · rw [h]

/-! ### The other commands -/

theorem State.returnsTo.high {s t : State} (h : s.returnsTo t) {x : Nat} (hx : Config.scratchBase ≤ x) :
    t.mem.read x = s.mem.read x := by
  rcases h with ⟨_, _, ⟨h, -⟩ | ⟨h, -⟩⟩ | ⟨h, -⟩ <;> exact h.high x hx

theorem State.takesUp.high {s t : State} {n : Fin 32} {k : RequestKind} (h : s.takesUp t n k) {x : Nat}
    (hx : Config.scratchBase ≤ x) : t.mem.read x = s.mem.read x := by
  rcases h with ⟨h, -⟩ | ⟨h, -⟩ <;> exact h.high x hx

theorem State.carriesOn.high {s t : State} {n : Fin 32} {k : RequestKind} (h : s.carriesOn t n k) {x : Nat}
    (hx : Config.scratchBase ≤ x) : t.mem.read x = s.mem.read x := by
  rcases h with ⟨h, -⟩ | ⟨h, -⟩ <;> exact h.high x hx

/-- A command that is no host access and no POWER_ON changes no byte from the scratch area up. -/
theorem Run.high {s t : State} {c : Instr} (h : Run s c t) (hc : hostAccess c = none) (hpower : c ≠ .powerOn) {x : Nat}
    (hx : Config.scratchBase ≤ x) : t.mem.read x = s.mem.read x := by
  have ended {u : State} (h : u.mem.read x = s.mem.read x) : u.driveNote.settled.mem.read x = s.mem.read x := h
  have askedDeny {u : State} (h : u.mem.read x = s.mem.read x) : u.advanceDeny.driveNote.mem.read x = s.mem.read x := h
  have askedLookup {u : State} (h : u.mem.read x = s.mem.read x) :
      u.chooseCheck.beginLookup.driveNote.mem.read x = s.mem.read x := h
  cases h with
  | absent => rfl
  | powerOn => exact absurd rfl hpower
  | access h => rw [hc] at h; cases h
  | ignored => rfl
  | mirrorRead => rfl
  | clockEdge => exact ended (s.clockEdge_steady.high x hx)
  | loseClock => exact ended (s.loseClock_steady.high x hx)
  | inspect => exact ended (((s.take_moves .inspection _).trans_steady (State.beginInspection_steady _ _)).high x hx)
  | inspectCompletion => exact ended ((s.completeInspection_moves _ _).high x hx)
  | checkJobEnd => exact askedDeny (s.chooseCheck.endJob_returnsTo.high hx)
  | checkPieceEnd => exact ended ((State.endPiece_steady s.chooseCheck).high x hx)
  | engineLookup => exact ended ((s.serveEngineLookup_steady _ _).high x hx)
  | probeLookup => exact ended ((s.serveProbe_returnsTo _).high hx)
  | add => exact askedLookup ((s.applyAdd_returnsTo _ _ _).high hx)
  | delete => exact askedLookup ((s.applyDelete_returnsTo _).high hx)
  | clear => exact askedLookup (s.applyClear_returnsTo.high hx)
  | sweepStep => exact ended (s.applySweepStep_steady.high x hx)
  | depart => exact ended ((s.serveDepart_moves _).high x hx)
  | arrive => exact ended ((s.serveArrive_moves _).high x hx)
  | pass => exact ended ((s.servePass_moves _).high x hx)
  | set => exact ended ((s.serveSet_moves _).high x hx)
  | badEvent => exact ended ((s.refuseJourney_moves _ _).high x hx)
  | clockSet => exact ended ((s.serveClockSet_moves _).high x hx)
  | serviceOpen => exact askedDeny ((s.chooseCheck.takeOpen_takesUp _).high hx)
  | serviceOpenCompletion => exact ended ((s.completeOpen_carriesOn _).high hx)
  | serviceClose => exact ended ((s.takeClose_takesUp _).high hx)
  | serviceCloseCompletion => exact ended ((s.completeClose_carriesOn _).high hx)
  | denyBatch => exact askedDeny ((s.chooseCheck.takeBatch_takesUp _).high hx)
  | denyProbe => exact ended ((s.takeProbe_takesUp _).high hx)

/-- A host access leaves the state, or is one of its write accesses followed by the end of its event. -/
theorem Run.of_hostAccess {s t : State} {c : Instr} (h : Run s c t) {a : Nat} {data : Word} {lanes : Lanes}
    (hc : hostAccess c = some (a, data, lanes)) : t = s ∨ t = (s.access a data lanes).driveNote.settled := by
  cases h with
  | absent => exact .inl rfl
  | access h =>
    rw [hc, Option.some.injEq, Prod.mk.injEq, Prod.mk.injEq] at h
    obtain ⟨rfl, rfl, rfl⟩ := h
    exact .inr rfl
  | clockEdge h => rcases h with rfl | rfl <;> cases hc
  | _ => cases hc

/-- A byte under guard is changed by no command but POWER_ON. -/
theorem Run.read_of_guarded {s t : State} {c : Instr} (h : Run s c t) (hpower : c ≠ .powerOn) {x : Nat}
    (hx : Config.scratchBase ≤ x) (hguard : s.guarded x = true) : t.mem.read x = s.mem.read x := by
  cases hc : hostAccess c with
  | none => exact h.high hc hpower hx
  | some access =>
    obtain ⟨a, data, lanes⟩ := access
    rcases h.of_hostAccess hc with rfl | rfl
    · rfl
    · by_cases ha : a < Config.memoryEnd
      · rw [State.access_of_lt _ _ _ ha]
        exact s.writeMemoryWord_read a data lanes hx (.inl hguard)
      · exact s.access_high data lanes ha hx

/-- A command that is no host write and no POWER_ON changes no byte from the scratch area up. -/
theorem Run.read_of_not_hostWrite {s t : State} {c : Instr} (h : Run s c t) (hpower : c ≠ .powerOn)
    (hwrite : ∀ addr data lanes, c ≠ .hostWrite addr data lanes) {x : Nat} (hx : Config.scratchBase ≤ x) :
    t.mem.read x = s.mem.read x := by
  cases hc : hostAccess c with
  | none => exact h.high hc hpower hx
  | some access =>
    obtain ⟨a, data, lanes⟩ := access
    have cell (n : Fin 32) : x ≠ cellBase n ∧ x ≠ cellBase n + 1 := by
      have := cellBase_le n
      simp only [Config.scratchBase] at hx
      omega
    rcases h.of_hostAccess hc with rfl | rfl
    · rfl
    · by_cases ha : a < Config.memoryEnd
      · rw [State.access_of_lt _ _ _ ha]
        refine s.writeMemoryWord_read a data lanes hx (.inr ?_)
        cases c <;> simp only [hostAccess, Option.some.injEq, Prod.mk.injEq, reduceCtorEq] at hc
        case hostWrite => exact absurd rfl (hwrite _ _ _)
        case arrival => exact hc.1 ▸ cell _
        case withdrawal => exact hc.1 ▸ cell _
        case release => exact hc.1 ▸ cell _
        all_goals
          obtain ⟨rfl, -⟩ := hc
          simp [Config.engControlAddr, Config.eventFlagsAddr, Config.eventEnableAddr, Config.memoryEnd] at ha
      · exact s.access_high data lanes ha hx

/-- No byte of a TAKEN cell changes with a host access that resets nothing. -/
theorem Run.read_of_taken {s t : State} {c : Instr} (h : Run s c t) {a : Nat} {data : Word} {lanes : Lanes}
    (hc : hostAccess c = some (a, data, lanes)) (hreset : c.resets = false) {n : Fin 32} (hn : s.cellState n = .taken)
    {x : Nat} (hx : inCell n x) : t.mem.read x = s.mem.read x := by
  rcases h.of_hostAccess hc with rfl | rfl
  · rfl
  · rw [State.settled_mem, State.driveNote_mem]
    rw [resets_of_hostAccess hc] at hreset
    rcases s.access_cases a data lanes with ⟨-, h⟩ | ⟨rfl, h⟩ | ⟨-, h⟩ | ⟨-, h⟩ | ⟨-, -, -, -, h⟩ <;> rw [h]
    · exact State.writeMemoryWord_taken hn a data lanes hx
    · rw [decide_eq_true rfl, Bool.true_and] at hreset
      rw [State.writeEngControl_of_not_resetWrite _ hreset]
    · refine s.clearEvents_sameBytesBut data lanes x fun hm => ?_
      have := cellBase_lt n
      simp only [inMirror, inCell, Config.cellSize] at *
      omega
    · rfl

/-- The context region is under guard while a service is in hand, and a batch extent while its batch is. -/
theorem State.guarded_context {s : State} (hs : s.table.service ≠ .noService) {a : Nat} (h₁ : 0x1000 ≤ a)
    (h₂ : a < 0x3000) : s.guarded a = true := by
  simp only [State.guarded, Config.mirrorBase, Config.contextBase, Config.bulkBase]
  rw [if_neg (by omega), if_neg (by omega), if_pos h₂]
  simpa using hs

theorem State.guarded_batch {s : State} {n : Fin 32} {offset count applied : Nat} {applying : Bool}
    (hs : s.table.held = some (n, .denyBatch offset count applied applying)) (hoff : Config.bulkBase ≤ offset) {a : Nat}
    (h₁ : offset ≤ a) (h₂ : a < offset + batchLength count) : s.guarded a = true := by
  have h₃ := hoff.trans h₁
  simp only [State.guarded, Config.mirrorBase, Config.contextBase, Config.bulkBase] at h₃ ⊢
  rw [if_neg (by omega), if_neg (by omega), if_neg (by omega)]
  simp [TableUnit.inExtent, TableUnit.batchExtent, hs, h₁, h₂]

/-- Settles O57: the guards hold their bytes, and without a host write none changes. -/
theorem guardedMemoryHolds : Obligations.GuardedMemoryHolds := by
  refine ⟨fun c s t h hpower => ⟨fun hs a h₁ h₂ => ?_, fun hwrite a ha => ?_⟩, fun s t n c hn h hc hreset i hi => ?_,
    fun s t c n offset count applied applying hs hoff h hpower a h₁ h₂ => ?_⟩
  · exact (run_of_exec h).read_of_guarded hpower (by simp only [Config.scratchBase]; omega) (State.guarded_context hs h₁ h₂)
  · exact (run_of_exec h).read_of_not_hostWrite hpower hwrite ha
  · have hx : inCell n (cellBase n + i) := ⟨by omega, by simp only [Config.cellSize]; omega⟩
    rcases hc with ⟨addr, data, lanes, rfl⟩ | ⟨m, kind, rfl⟩ | ⟨m, rfl⟩ | ⟨m, rfl⟩
    all_goals exact (run_of_exec h).read_of_taken rfl hreset hn hx
  · refine (run_of_exec h).read_of_guarded hpower ?_ (State.guarded_batch hs hoff h₁ (by simp only [batchLength]; omega))
    exact le_trans (by decide : Config.scratchBase ≤ Config.bulkBase) (hoff.trans h₁)

end Sys2Proof.Machine
end

section
/-!
The service state and what fits it (R122, R123, R147): the outcomes of the table unit's work, one equation each, and the
events that change the service state, the position and the round.
-/
namespace Sys2Proof.Machine

/-! ### The outcomes of the table unit's work -/

/-- The residue of a table fails the open, asks for the next table, or passes the last check (R150 to R152). -/
theorem State.openResidue_cases (s : State) (n : Fin 32) (table : Nat) (residue : Word) :
    (∃ r detail entry, s.openResidue n table residue = s.failOpen n r detail entry) ∨
      (table < 5 ∧ s.openResidue n table residue = s.checkTable n (table + 1)) ∨
      (s.mem.fieldFault = none ∧ s.openResidue n table residue = s.hold n (.serviceOpen 1 2 true)) := by
  unfold State.openResidue
  split
  · exact .inl ⟨_, _, _, rfl⟩
  · split
    next h => exact .inr (.inl ⟨h, rfl⟩)
    next =>
      split
      · exact .inl ⟨_, _, _, rfl⟩
      next h => exact .inr (.inr ⟨h, rfl⟩)

/-- A batch that goes on is answered or hands its next edit over (R110, R113). -/
theorem State.continueBatch_cases (s : State) (n : Fin 32) (offset count applied : Nat) :
    (∃ r i, s.continueBatch n offset count applied = s.finishBatch n r applied i) ∨
      ∃ e, s.continueBatch n offset count applied = (s.hold n (.denyBatch offset count applied true)).handEdit e := by
  unfold State.continueBatch
  split
  · exact .inl ⟨_, _, rfl⟩
  · split
    · exact .inl ⟨_, _, rfl⟩
    · exact .inr ⟨_, rfl⟩

theorem State.batchResidue_cases (s : State) (n : Fin 32) (offset count : Nat) (residue : Word) :
    (∃ r k i, s.batchResidue n offset count residue = s.finishBatch n r k i) ∨
      ∃ e, s.batchResidue n offset count residue = (s.hold n (.denyBatch offset count 0 true)).handEdit e := by
  unfold State.batchResidue
  split
  · exact .inl ⟨_, _, _, rfl⟩
  · exact (s.continueBatch_cases n offset count 0).imp_left fun ⟨r, i, h⟩ => ⟨r, 0, i, h⟩

/-- An edit's result reaches the batch that waits for it, if there is one. -/
theorem State.afterEdit_cases (s : State) (applied : Bool) :
    (∃ n offset count i, s.table.held = some (n, .denyBatch offset count i true) ∧
      ((∃ r k j, s.afterEdit applied =
          ({ s with deny := { s.deny with edit := none } } : State).finishBatch n r k j) ∨
        ∃ e, s.afterEdit applied = (({ s with deny := { s.deny with edit := none } } : State).hold n
          (.denyBatch offset count (i + 1) true)).handEdit e)) ∨
      (∀ n offset count i, s.table.held ≠ some (n, .denyBatch offset count i true)) ∧
        s.afterEdit applied = { s with deny := { s.deny with edit := none } } := by
  unfold State.afterEdit
  dsimp only
  split
  next n offset count i hheld =>
    refine .inl ⟨n, offset, count, i, hheld, ?_⟩
    split
    · rcases State.continueBatch_cases { s with deny := { s.deny with edit := none } } n offset count (i + 1) with
        ⟨r, j, h⟩ | ⟨e, h⟩
      · exact .inl ⟨r, _, j, h⟩
      · exact .inr ⟨e, h⟩
    · exact .inl ⟨_, _, _, rfl⟩
  next hnot => exact .inr ⟨fun n offset count i h => hnot n offset count i h, rfl⟩

/-- A residue reaches the open or the batch that waits for it, if there is one (R163). -/
theorem State.tableResult_cases (s : State) (residue : Word) :
    (∃ n table entry, s.table.held = some (n, .serviceOpen table entry false) ∧
      s.tableResult residue = s.openResidue n table residue) ∨
      (∃ n offset count applied, s.table.held = some (n, .denyBatch offset count applied false) ∧
        s.tableResult residue = s.batchResidue n offset count residue) ∨
      (∀ n table entry, s.table.held ≠ some (n, .serviceOpen table entry false)) ∧
        (∀ n offset count applied, s.table.held ≠ some (n, .denyBatch offset count applied false)) ∧
        s.tableResult residue = s := by
  unfold State.tableResult
  split
  next h => exact .inl ⟨_, _, _, h, rfl⟩
  next h => exact .inr (.inl ⟨_, _, _, _, h, rfl⟩)
  next h₁ h₂ => exact .inr (.inr ⟨fun n table entry h => h₁ n table entry h, fun n o c a h => h₂ n o c a h, rfl⟩)

/-- The check unit free of its job, which the next may follow. -/
def State.checkFreed (s : State) (engineJob : Option (List Byte)) (tableJob : Option TableJob) : State :=
  ({ s with check := { serving := none, engineJob := engineJob, tableJob := tableJob } } : State).chooseCheck

/-- The end of a job hands the engine or the table unit its result (R163). -/
theorem State.endJob_cases (s : State) :
    (∃ r run, s.check.serving = some ⟨.verdictEngine, r⟩ ∧ s.check.engineJob = some run ∧
      s.endJob = (s.checkFreed none s.check.tableJob).engineResult (checkFrom r run)) ∨
      (∃ r j, s.check.serving = some ⟨.tableUnit, r⟩ ∧ s.check.tableJob = some j ∧
        s.endJob = (s.checkFreed s.check.engineJob none).tableResult (s.pieceRemainder j r)) ∨
      s.endJob = s := by
  unfold State.endJob
  split
  next h₁ h₂ => exact .inl ⟨_, _, h₁, h₂, rfl⟩
  next h₁ h₂ => exact .inr (.inl ⟨_, _, h₁, h₂, rfl⟩)
  next => exact .inr (.inr rfl)

/-! ### The edits, with the batch they belong to -/

/-- The table unit stands, or it held a batch that is answered or goes on: what every edit makes of it. -/
def TableUnit.afterBatch (u v : TableUnit) : Prop :=
  v = u ∨ ∃ n offset count i, u.held = some (n, .denyBatch offset count i true) ∧
    (v = { u with held := none } ∨ ∃ k, v = { u with held := some (n, .denyBatch offset count k true) })

theorem State.afterEdit_table (s : State) (applied : Bool) : s.table.afterBatch (s.afterEdit applied).table := by
  rcases s.afterEdit_cases applied with ⟨n, offset, count, i, hheld, ⟨r, k, j, h⟩ | ⟨e, h⟩⟩ | ⟨-, h⟩
  · exact .inr ⟨n, offset, count, i, hheld, .inl (by rw [h]; rfl)⟩
  · exact .inr ⟨n, offset, count, i, hheld, .inr ⟨_, by rw [h]; rfl⟩⟩
  · exact .inl (by rw [h])

theorem State.applyAdd_table (s : State) (media reason expiry : Nat) :
    s.table.afterBatch (s.applyAdd media reason expiry).table := by
  unfold State.applyAdd
  split
  · exact State.afterEdit_table (s.raise .denyFull) false
  · exact State.afterEdit_table (s.setDenyList _) true

theorem State.applyDelete_table (s : State) (media : Nat) : s.table.afterBatch (s.applyDelete media).table :=
  State.afterEdit_table (s.setDenyList _) true

theorem State.applyClear_table (s : State) : s.table.afterBatch s.applyClear.table :=
  State.afterEdit_table (s.setDenyList _) true

/-- A lookup served for the table unit answers the probe that waits for it, if there is one. -/
theorem State.serveProbe_table (s : State) (media : Nat) :
    (s.serveProbe media).table = s.table ∨
      (∃ n, s.table.held = some (n, .denyProbe)) ∧ (s.serveProbe media).table = { s.table with held := none } := by
  unfold State.serveProbe
  dsimp only
  split
  next h => exact .inr ⟨⟨_, h⟩, rfl⟩
  next => exact .inl rfl

/-- The end of a job leaves the table unit, fails its open, or goes on with its open or its batch. -/
theorem State.endJob_table (s : State) :
    s.endJob.table = s.table ∨
      (∃ n table entry, s.table.held = some (n, .serviceOpen table entry false) ∧
        (s.endJob.table = { service := .noService, held := none } ∨
          s.endJob.table = { s.table with held := some (n, .serviceOpen (table + 1) Config.absent false) } ∨
          s.mem.fieldFault = none ∧ s.endJob.mem = s.mem ∧
            s.endJob.table = { s.table with held := some (n, .serviceOpen 1 2 true) })) ∨
      ∃ n offset count i, s.table.held = some (n, .denyBatch offset count i false) ∧
        (s.endJob.table = { s.table with held := none } ∨
          s.endJob.table = { s.table with held := some (n, .denyBatch offset count 0 true) }) := by
  rcases s.endJob_cases with ⟨r, run, -, -, h⟩ | ⟨r, j, -, -, h⟩ | h
  · rw [h, State.engineResult_spec]
    exact .inl rfl
  · rw [h]
    generalize s.pieceRemainder j r = residue
    rcases (s.checkFreed s.check.engineJob none).tableResult_cases residue with
      ⟨n, table, entry, hheld, h⟩ | ⟨n, offset, count, i, hheld, h⟩ | ⟨-, -, h⟩ <;> rw [h]
    · refine .inr (.inl ⟨n, table, entry, hheld, ?_⟩)
      rcases (s.checkFreed s.check.engineJob none).openResidue_cases n table residue with
        ⟨a, b, d, h⟩ | ⟨-, h⟩ | ⟨hfault, h⟩ <;> rw [h]
      · exact .inl rfl
      · exact .inr (.inl rfl)
      · exact .inr (.inr ⟨hfault, rfl, rfl⟩)
    · refine .inr (.inr ⟨n, offset, count, i, hheld, ?_⟩)
      rcases (s.checkFreed s.check.engineJob none).batchResidue_cases n offset count residue with
        ⟨a, b, d, h⟩ | ⟨e, h⟩ <;> rw [h]
      · exact .inl rfl
      · exact .inr rfl
    · exact .inl rfl
  · rw [h]
    exact .inl rfl

/-! ### Takes of the table unit -/

/-- A SERVICE-OPEN is refused, the unit standing, or enters CHECKING (R149). -/
theorem State.takeOpen_table (s : State) (n : Fin 32) :
    (s.takeOpen n).table = { s.table with held := none } ∨
      s.table.service.isOpen = false ∧ s.clock.valid = true ∧
        (s.takeOpen n).table = { service := .checking, held := some (n, .serviceOpen 1 Config.absent false) } := by
  unfold State.takeOpen
  split
  · exact .inl rfl
  next hopen =>
    split
    · exact .inl rfl
    next hvalid => exact .inr ⟨Bool.eq_false_of_not_eq_true hopen, by simpa using hvalid, rfl⟩

/-- A SERVICE-CLOSE is answered, or completes the close of an open service with the engine idle, or waits (R156). -/
theorem State.takeClose_cases (s : State) (n : Fin 32) :
    (∃ answer, s.takeClose n = (s.take .table n).finishTable n answer) ∨
      s.table.service.isOpen = true ∧
        (s.engine.flight = none ∧ s.takeClose n = (s.take .table n).completeClose n ∨
          s.takeClose n = (s.take .table n).hold n .serviceClose) := by
  unfold State.takeClose
  split
  · exact .inl ⟨_, rfl⟩
  · exact .inl ⟨_, rfl⟩
  all_goals
    next hservice =>
      refine .inr ⟨by rw [hservice]; rfl, ?_⟩
      split
      next hidle => exact .inl ⟨Option.isNone_iff_eq_none.mp hidle, rfl⟩
      next => exact .inr rfl

/-- A batch is answered, or held for its check (R107, R109). -/
theorem State.takeBatch_table (s : State) (n : Fin 32) :
    (s.takeBatch n).table = { s.table with held := none } ∨
      ∃ offset count, (s.takeBatch n).table = { s.table with held := some (n, .denyBatch offset count 0 false) } := by
  unfold State.takeBatch
  dsimp only
  split
  · exact .inl rfl
  · exact .inr ⟨_, _, rfl⟩

/-! ### The journey unit's accepted requests -/

theorem State.serveDepart_kind (s : State) (n : Fin 32) :
    (s.serveDepart n).journey.kind = s.journey.kind ∨
      s.table.service = .inService ∧ (s.serveDepart n).journey.kind = .inSection := by
  unfold State.serveDepart State.answerJourney
  split
  · obtain ⟨m, N, h⟩ := s.refuseJourney_frame n ‹_›
    exact .inl (by rw [h])
  next hservice =>
    dsimp only
    split
    · exact .inl (by rw [State.post_journey, State.take_journey])
    · exact .inr ⟨stateRefusal_eq_none.1 hservice, by rw [State.post_journey, State.rewriteMirror_journey]⟩

/-- A SET is refused, or places the train at its target (R129). -/
theorem State.serveSet_cases (s : State) (n : Fin 32) :
    (∃ r, s.serveSet n = s.refuseJourney n r) ∨
      ∃ stop kind, s.table.service = .inService ∧ s.setTarget n = .ok (stop, kind) ∧
        s.serveSet n = ((s.take .journey n).setPosition stop kind).answerJourney n (Outcome.done, 0#8) 0 := by
  unfold State.serveSet
  split
  · exact .inl ⟨_, rfl⟩
  · exact .inl ⟨_, rfl⟩
  next hservice htarget => exact .inr ⟨_, _, stateRefusal_eq_none.1 hservice, htarget, rfl⟩

/-- A SET at its target: the position, and TERMINATED where the train stands at the terminus. -/
theorem State.setPosition_spec (s : State) (stop : Nat) (kind : PosKind) : ∃ m, s.setPosition stop kind = { s with
    mem := m
    journey := { s.journey with kind := kind, stop := stop }
    table := { s.table with
      service := if kind = .atStop ∧ stop = s.mem.header.terminus then .terminated else s.table.service }
    notice := { s.notice with flags :=
      s.notice.flags ||| (if kind = .atStop ∧ stop = s.mem.header.terminus then EventFlag.terminus.bit else 0#9) } } := by
  unfold State.setPosition
  dsimp only
  rw [State.rewriteMirror_eq]
  by_cases h : kind = .atStop ∧ stop = s.mem.header.terminus
  · simp only [if_pos h]
    exact ⟨_, rfl⟩
  · simp only [if_neg h, BitVec.or_zero]
    exact ⟨_, rfl⟩

theorem State.serveSet_accepted_spec (s : State) (n : Fin 32) (stop : Nat) (kind : PosKind) :
    ∃ m N, ((s.take .journey n).setPosition stop kind).answerJourney n (Outcome.done, 0#8) 0 = { s with
      mem := m
      intake := { s.intake with journey := s.intake.journey.tail }
      journey := { s.journey with kind := kind, stop := stop }
      table := { s.table with
        service := if kind = .atStop ∧ stop = s.mem.header.terminus then .terminated else s.table.service }
      notice := { s.notice.withCells N with flags :=
        s.notice.flags |||
          (if kind = .atStop ∧ stop = s.mem.header.terminus then EventFlag.terminus.bit else 0#9) } } := by
  rw [State.answerJourney, State.post_eq]
  obtain ⟨m, h⟩ := (s.take .journey n).setPosition_spec stop kind
  rw [h]
  simp only [State.take_header]
  generalize (State.post _ n _).mem = m'
  generalize (State.post _ n _).notice = N
  rw [State.take_journey_eq]
  exact ⟨m', N, rfl⟩

/-- The target of an accepted SET is a stop of the route, in a section only short of the terminus. -/
theorem State.setTarget_ok {s : State} {n : Fin 32} {stop : Nat} {kind : PosKind} (h : s.setTarget n = .ok (stop, kind)) :
    stop < s.mem.header.stops ∧ kind ≠ .nowhere ∧ (kind = .inSection → stop ≠ s.mem.header.terminus) := by
  unfold State.setTarget at h
  dsimp only at h
  split at h
  next i k hi hk =>
    split at h
    · cases h
    next hstops =>
      split at h
      · cases h
      next k hsome =>
        split at h
        · cases h
        next hsection =>
          simp only [Except.ok.injEq, Prod.mk.injEq] at h
          obtain ⟨rfl, rfl⟩ := h
          refine ⟨not_le.mp hstops, ?_, fun hk h => hsection ⟨hk, h⟩⟩
          unfold State.journeyKind at hsome
          split at hsome
          · cases hsome
            simp
          · split at hsome <;> cases hsome
            simp
  · cases h

/-- The target of an accepted ARRIVE is a stop of the route (R126). -/
theorem State.arriveTarget_lt {s : State} {n : Fin 32} (h : s.arriveFault n = none)
    (hstop : s.journey.stop < s.mem.header.stops) (hterm : s.journey.stop ≠ s.mem.header.terminus) :
    s.arriveTarget n < s.mem.header.stops := by
  unfold State.arriveTarget
  rcases hs : s.journeyStop n with _ | i
  · simp only [Option.getD_none, Header.next, Header.terminus] at *
    split <;> simp_all <;> omega
  · unfold State.arriveFault at h
    simp only [hs, Option.any_some, decide_eq_true_eq] at h
    split at h
    · cases h
    next hle => exact not_le.mp hle

/-- The stop ahead of an accepted PASS is a stop of the route short of the terminus (R128). -/
theorem State.passNext_lt {s : State} (h : s.passFault = none)
    (hstop : s.journey.stop < s.mem.header.stops) (hterm : s.journey.stop ≠ s.mem.header.terminus) :
    s.mem.header.next s.journey.stop < s.mem.header.stops ∧
      s.mem.header.next s.journey.stop ≠ s.mem.header.terminus := by
  unfold State.passFault at h
  dsimp only at h
  split at h
  · cases h
  · split at h
    · cases h
    next hne =>
      refine ⟨?_, hne⟩
      simp only [Header.next, Header.terminus] at *
      split <;> simp_all <;> omega

end Sys2Proof.Machine
end

section
/-!
The service state, the position and the round keep their form (R122, R123, R147), and the service state changes by Table 8-3.
-/
namespace Sys2Proof.Machine

/-! ### The events of Table 8-3 -/

theorem TableUnit.afterBatch.service {u v : TableUnit} (h : u.afterBatch v) : v.service = u.service := by
  rcases h with h | ⟨n, offset, count, i, -, h | ⟨k, h⟩⟩ <;> rw [h]

/-- The table unit with no cell in hand is not CHECKING. -/
theorem State.not_checking_of_free {s : State} (hs : s.serviceSound) (h : s.table.held = none) :
    s.table.service ≠ .checking := by
  have := hs.2
  rw [State.taskFits, h] at this
  exact this

theorem State.service_of_open {s : State} (hs : s.serviceSound) {n : Fin 32} {table entry : Nat} {passed : Bool}
    (h : s.table.held = some (n, .serviceOpen table entry passed)) : s.table.service = .checking := by
  have := hs.2
  rw [State.taskFits, h] at this
  exact this.1

theorem State.service_of_close {s : State} (hs : s.serviceSound) {n : Fin 32}
    (h : s.table.held = some (n, .serviceClose)) : s.table.service.isOpen = true := by
  have := hs.2
  rw [State.taskFits, h] at this
  exact this

theorem State.service_of_batch {s : State} (hs : s.serviceSound) {n : Fin 32} {offset count applied : Nat}
    {applying : Bool} (h : s.table.held = some (n, .denyBatch offset count applied applying)) :
    s.table.service ≠ .checking := by
  have := hs.2
  rw [State.taskFits, h] at this
  exact this

theorem ServiceState.eq_noService_of {v : ServiceState} (h₁ : v.isOpen = false) (h₂ : v ≠ .checking) : v = .noService := by
  cases v <;> simp_all [ServiceState.isOpen]

/-- An accepted ARRIVE changes the service state at the terminus alone (R130). -/
theorem State.serveArrive_service {s : State} {n : Fin 32} (h : (s.serveArrive n).table.service ≠ s.table.service) :
    s.table.service = .inService ∧ (s.serveArrive n).table.service = .terminated ∧
      (s.serveArrive n).journey.kind = .atStop ∧ (s.serveArrive n).journey.stop = s.mem.header.terminus := by
  rcases hr : (stateRefusal s.table.service).or (s.arriveFault n) with _ | r
  · obtain ⟨m, N, heq⟩ := State.serveArrive_accepted_spec hr
    rw [heq] at h ⊢
    have ht : s.arriveTarget n = s.mem.header.terminus := by
      by_contra hne
      simp [hne] at h
    exact ⟨stateRefusal_eq_none.1 (Option.or_eq_none_iff.mp hr).1, if_pos ht, rfl, ht⟩
  · obtain ⟨m, N, heq⟩ := s.refuseJourney_frame n r
    rw [State.serveArrive_of_refused hr, heq] at h
    exact absurd rfl h

/-- An accepted SET changes the service state at the terminus alone (R129, R130). -/
theorem State.serveSet_service {s : State} {n : Fin 32} (h : (s.serveSet n).table.service ≠ s.table.service) :
    s.table.service = .inService ∧ (s.serveSet n).table.service = .terminated ∧
      (s.serveSet n).journey.kind = .atStop ∧ (s.serveSet n).journey.stop = s.mem.header.terminus := by
  rcases s.serveSet_cases n with ⟨r, hr⟩ | ⟨stop, kind, hservice, -, hr⟩
  · obtain ⟨m, N, heq⟩ := s.refuseJourney_frame n r
    rw [hr, heq] at h
    exact absurd rfl h
  · obtain ⟨m, N, heq⟩ := s.serveSet_accepted_spec n stop kind
    rw [hr, heq] at h ⊢
    have ht : kind = .atStop ∧ stop = s.mem.header.terminus := by
      by_contra hne
      simp [hne] at h
    exact ⟨hservice, if_pos ht, ht.1, ht.2⟩

/-- A close that changes the service state finds it open and the engine idle. -/
theorem State.takeClose_service {s : State} {n : Fin 32} (h : (s.takeClose n).table.service ≠ s.table.service) :
    s.table.service.isOpen = true ∧ s.engine.flight = none ∧ (s.takeClose n).table.service = .noService := by
  rcases s.takeClose_cases n with ⟨answer, hc⟩ | ⟨hopen, ⟨hidle, hc⟩ | hc⟩ <;> rw [hc] at h ⊢
  · exact absurd rfl h
  · exact ⟨hopen, hidle, rfl⟩
  · exact absurd rfl h

/-- Settles O58, event by event. -/
theorem serviceStateChangesByTable : Obligations.ServiceStateChangesByTable := by
  intro c s t hs hexec hne
  have h := run_of_exec hexec
  cases h with
  | absent => exact absurd rfl hne
  | powerOn => exact .inr (.inr (.inr (.inr (.inr ⟨rfl, rfl⟩))))
  | @access c a data lanes hc =>
    rcases s.access_cases a data lanes with ⟨-, h⟩ | ⟨rfl, h⟩ | ⟨-, h⟩ | ⟨-, h⟩ | ⟨-, -, -, -, h⟩ <;> rw [h] at hne
    · obtain ⟨m, q, F, N, h⟩ := s.writeMemoryWord_frame a data lanes
      exact absurd (by rw [h]; rfl) hne
    · cases hw : resetWrite data lanes with
      | true =>
        refine .inr (.inr (.inr (.inr (.inr ⟨by simp [resets_of_hostAccess hc, hw], ?_⟩))))
        obtain ⟨m, i, j, u, N, hf⟩ := State.engineReset_frame { s with notice := s.notice.control data }
        rw [h, State.writeEngControl_of_resetWrite _ hw, hf]
        rfl
      | false => exact absurd (by rw [State.writeEngControl_of_not_resetWrite _ hw]; rfl) hne
    · obtain ⟨m, h⟩ := s.clearEvents_frame data lanes
      exact absurd (by rw [h]; rfl) hne
    · exact absurd rfl hne
    · exact absurd rfl hne
  | ignored => exact absurd rfl hne
  | mirrorRead => exact absurd rfl hne
  | clockEdge =>
    obtain ⟨m, k, d, F, h⟩ := s.clockEdge_frame
    exact absurd (by rw [h]; rfl) hne
  | loseClock => exact absurd rfl hne
  | inspect =>
    obtain ⟨f, -, -, -, -, h⟩ := (s.take .inspection _).beginInspection_spec _
    exact absurd (by rw [h]; rfl) hne
  | @inspectCompletion f v =>
    obtain ⟨m, r, l, F, N, h⟩ := s.completeInspection_frame f v
    exact absurd (by rw [h]; rfl) hne
  | checkJobEnd =>
    rcases s.chooseCheck.endJob_table with h | ⟨n, table, entry, hheld, h | h | ⟨-, -, h⟩⟩ |
      ⟨n, offset, count, i, hheld, h | h⟩
    · exact absurd (congrArg TableUnit.service h) hne
    · exact .inr (.inr (.inl ⟨rfl, State.service_of_open hs hheld, congrArg TableUnit.service h⟩))
    · exact absurd (congrArg TableUnit.service h) hne
    · exact absurd (congrArg TableUnit.service h) hne
    · exact absurd (congrArg TableUnit.service h) hne
    · exact absurd (congrArg TableUnit.service h) hne
  | checkPieceEnd =>
    obtain ⟨u, h⟩ := s.chooseCheck.endPiece_frame
    exact absurd (by rw [h]; rfl) hne
  | @engineLookup media day =>
    obtain ⟨f, l, r, h⟩ := s.serveEngineLookup_frame media day
    exact absurd (by rw [h]; rfl) hne
  | @probeLookup media =>
    obtain ⟨m, u, N, h⟩ := s.serveProbe_frame media
    exact absurd (by rw [h]; rfl) hne
  | add => exact absurd (s.applyAdd_table _ _ _).service hne
  | delete => exact absurd (s.applyDelete_table _).service hne
  | clear => exact absurd s.applyClear_table.service hne
  | sweepStep => exact absurd rfl hne
  | @depart n =>
    obtain ⟨m, k, N, h⟩ := s.serveDepart_frame n
    exact absurd (by rw [h]; rfl) hne
  | arrive => exact .inr (.inr (.inr (.inl ⟨.inl rfl, State.serveArrive_service hne⟩)))
  | @pass n =>
    obtain ⟨m, p, r, cap, l, F, N, h⟩ := s.servePass_frame n
    exact absurd (by rw [h]; rfl) hne
  | set => exact .inr (.inr (.inr (.inl ⟨.inr rfl, State.serveSet_service hne⟩)))
  | @badEvent n =>
    obtain ⟨m, N, h⟩ := s.serveBadEvent_frame n
    exact absurd (by rw [h]; rfl) hne
  | @clockSet n =>
    obtain ⟨m, k, d, F, N, h⟩ := s.serveClockSet_frame n
    exact absurd (by rw [h]; rfl) hne
  | @serviceOpen n hhead =>
    obtain ⟨hfree, -⟩ := State.head_of_tableHead hhead
    rcases s.chooseCheck.takeOpen_table n with h | ⟨hopen, hvalid, h⟩
    · exact absurd (congrArg TableUnit.service h) hne
    · exact .inl ⟨rfl, ServiceState.eq_noService_of hopen (State.not_checking_of_free hs hfree), hvalid,
        congrArg TableUnit.service h⟩
  | serviceOpenCompletion hheld => exact .inr (.inl ⟨rfl, State.service_of_open hs hheld, rfl⟩)
  | serviceClose =>
    obtain ⟨hopen, hidle, hclosed⟩ := State.takeClose_service hne
    exact .inr (.inr (.inr (.inr (.inl ⟨.inl rfl, hopen, hidle, hclosed⟩))))
  | serviceCloseCompletion hheld hidle =>
    exact .inr (.inr (.inr (.inr (.inl ⟨.inr rfl, State.service_of_close hs hheld, hidle, rfl⟩))))
  | @denyBatch n =>
    obtain ⟨m, u, j, N, h⟩ := s.chooseCheck.takeBatch_frame n
    exact absurd (by rw [h]; rfl) hne
  | denyProbe => exact absurd rfl hne

end Sys2Proof.Machine
end

section
/-!
Every step keeps the position, the round and the work of the table unit in the form of the service state.
-/
namespace Sys2Proof.Machine

/-- A field check that finds no fault finds a legal origin (R151, row 18). -/
theorem Memory.origin_of_fieldFault {m : Memory} (h : m.fieldFault = none) :
    m.header.origin < m.header.stops ∧ m.header.origin ≠ m.header.terminus := by
  have hrow := List.find?_eq_none.1 h (originRow m.header) (by simp [Memory.checkRows])
  simpa [originRow, not_or, not_le] using hrow

/-- The header of a service in hand stands through every command but POWER_ON (R148). -/
theorem Run.header_kept {s t : State} {c : Instr} (h : Run s c t) (hpower : c ≠ .powerOn)
    (hs : s.table.service ≠ .noService) : t.mem.header = s.mem.header :=
  Memory.header_congr fun a h₁ h₂ => h.read_of_guarded hpower (by simp only [Config.scratchBase]; omega)
    (State.guarded_context hs h₁ (by omega))

/-! ### States of the same form -/

theorem State.journeyForm_of_same {s t : State} (hs : s.journeyForm) (hkind : t.journey.kind = s.journey.kind)
    (hstop : t.journey.stop = s.journey.stop) (hround : t.journey.round = s.journey.round)
    (hday : t.journey.serviceDay = s.journey.serviceDay) (hservice : t.table.service = s.table.service)
    (hheader : s.table.service ≠ .noService → t.mem.header = s.mem.header) : t.journeyForm := by
  obtain ⟨h₁, h₂⟩ := hs
  refine ⟨by rwa [hround], ?_⟩
  rw [hservice, hkind, hstop, hround, hday]
  cases hv : s.table.service <;> rw [hv] at h₂ hheader <;> simp only at h₂ ⊢
  · exact h₂
  · exact h₂
  · rw [hheader (by simp)]
    exact h₂
  · rw [hheader (by simp)]
    exact h₂

theorem State.taskFits_of_same {s t : State} (hs : s.taskFits) (htable : t.table = s.table)
    (hheader : s.table.service ≠ .noService → t.mem.header = s.mem.header) : t.taskFits := by
  unfold State.taskFits at *
  rw [htable]
  split at hs
  · obtain ⟨hc, horigin⟩ := hs
    exact ⟨hc, fun hp => by rw [hheader (by simp [hc])]; exact horigin hp⟩
  · exact hs
  · exact hs
  · exact hs
  · exact hs

/-- The table unit free, or with a batch or a probe in hand, fits every state but CHECKING. -/
theorem State.taskFits_of_not_checking {t : State} (hs : t.table.service ≠ .checking)
    (hheld : t.table.held = none ∨ (∃ n o c a b, t.table.held = some (n, .denyBatch o c a b)) ∨
      ∃ n, t.table.held = some (n, .denyProbe)) : t.taskFits := by
  unfold State.taskFits
  rcases hheld with h | ⟨n, o, c, a, b, h⟩ | ⟨n, h⟩ <;> rw [h] <;> exact hs

/-- What the statement claims of two states. -/
def State.keepsForm (s t : State) : Prop := s.serviceSound → t.serviceSound ∧ (s.inspectionsFit → t.inspectionsFit)

/-- The position, the round, the table unit, the round list and the inspection stand. -/
theorem State.keepsForm_of_same {s t : State} (hkind : t.journey.kind = s.journey.kind)
    (hstop : t.journey.stop = s.journey.stop) (hround : t.journey.round = s.journey.round)
    (hday : t.journey.serviceDay = s.journey.serviceDay) (htable : t.table = s.table) (hrounds : t.rounds = s.rounds)
    (hflight : t.engine.flight = s.engine.flight)
    (hheader : s.table.service ≠ .noService → t.mem.header = s.mem.header) : s.keepsForm t := fun hs =>
  ⟨⟨State.journeyForm_of_same hs.1 hkind hstop hround hday (by rw [htable]) hheader,
    State.taskFits_of_same hs.2 htable hheader⟩, fun hi => by rwa [State.inspectionsFit, htable, hrounds, hflight]⟩

/-- The table unit answers or goes on with a batch or a probe, the journey and the inspections standing. -/
theorem State.keepsForm_of_held {s t : State} (hchecking : s.serviceSound → s.table.service ≠ .checking)
    (hjourney : t.journey = s.journey) (hservice : t.table.service = s.table.service)
    (hheld : t.table.held = none ∨ (∃ n o c a b, t.table.held = some (n, .denyBatch o c a b)) ∨
      ∃ n, t.table.held = some (n, .denyProbe)) (hrounds : t.rounds = s.rounds)
    (hflight : t.engine.flight = s.engine.flight)
    (hheader : s.table.service ≠ .noService → t.mem.header = s.mem.header) : s.keepsForm t := fun hs =>
  ⟨⟨State.journeyForm_of_same hs.1 (by rw [hjourney]) (by rw [hjourney]) (by rw [hjourney]) (by rw [hjourney]) hservice
      hheader, State.taskFits_of_not_checking (by rw [hservice]; exact hchecking hs) hheld⟩,
    fun hi => by rwa [State.inspectionsFit, hservice, hrounds, hflight]⟩

/-- No service: no position, and no inspection but a NO_SERVICE. -/
theorem State.keepsForm_of_noService {s t : State} (hkind : t.journey.kind = .nowhere) (hstop : t.journey.stop = 0)
    (hround : t.journey.round = 0) (hday : t.journey.serviceDay = 0) (hservice : t.table.service = .noService)
    (hheld : t.table.held = none)
    (hfit : s.inspectionsFit → t.rounds = [] ∧ ∀ f ∈ t.engine.flight, f.stage = .judged .noService) : s.keepsForm t := by
  refine fun _ => ⟨⟨⟨by rw [hround]; decide, ?_⟩, ?_⟩, fun hi => .inr (hfit hi)⟩
  · rw [hservice]
    exact ⟨hkind, hstop, hround, hday⟩
  · exact State.taskFits_of_not_checking (by rw [hservice]; simp) (.inl hheld)

/-- An edit of a batch keeps the form. -/
theorem State.keepsForm_of_afterBatch {s t : State} (htable : s.table.afterBatch t.table)
    (hjourney : t.journey = s.journey) (hrounds : t.rounds = s.rounds)
    (hflight : t.engine.flight = s.engine.flight)
    (hheader : s.table.service ≠ .noService → t.mem.header = s.mem.header) : s.keepsForm t := by
  rcases htable with h | ⟨n, offset, count, i, hheld, h⟩
  · exact State.keepsForm_of_same (by rw [hjourney]) (by rw [hjourney]) (by rw [hjourney]) (by rw [hjourney]) h hrounds
      hflight hheader
  · have hc : s.serviceSound → s.table.service ≠ .checking := fun hs => State.service_of_batch hs hheld
    rcases h with h | ⟨k, h⟩
    · exact State.keepsForm_of_held hc hjourney (by rw [h]) (.inl (by rw [h])) hrounds hflight hheader
    · exact State.keepsForm_of_held hc hjourney (by rw [h]) (.inr (.inl ⟨_, _, _, _, _, by rw [h]⟩)) hrounds hflight hheader

/-! ### The journey's events -/

/-- A refused request leaves the form. -/
theorem State.refuseJourney_keepsForm (s : State) (n : Fin 32) (r : Reply)
    (hheader : s.table.service ≠ .noService → (s.refuseJourney n r).mem.header = s.mem.header) :
    s.keepsForm (s.refuseJourney n r) := by
  obtain ⟨m, N, h⟩ := s.refuseJourney_frame n r
  rw [h] at hheader ⊢
  exact State.keepsForm_of_same rfl rfl rfl rfl rfl rfl rfl hheader

/-- An accepted request finds the form of IN_SERVICE. -/
theorem State.form_of_inService {s : State} (hs : s.serviceSound) (h : s.table.service = .inService) :
    s.journey.kind ≠ .nowhere ∧ s.journey.stop < s.mem.header.stops ∧ s.journey.stop ≠ s.mem.header.terminus ∧
      1 ≤ s.journey.round ∧ s.journey.round ≤ Config.wordMax := by
  obtain ⟨⟨h₁, h₂⟩, -⟩ := hs
  rw [h] at h₂
  exact ⟨h₂.1, h₂.2.1, h₂.2.2.1, h₂.2.2.2, h₁⟩

/-- An open service stays one while its train moves, whatever the table unit holds beside it. -/
theorem State.keepsForm_of_move {s t : State} (hservice : s.table.service = .inService)
    (hheld : t.table.held = s.table.held) (hform : s.serviceSound → t.journeyForm) (hopen : t.table.service.isOpen = true) :
    s.keepsForm t := by
  refine fun hs => ⟨⟨hform hs, ?_⟩, fun _ => .inl hopen⟩
  have htask := hs.2
  unfold State.taskFits at htask ⊢
  rw [hheld]
  have hnot : t.table.service ≠ .checking := by rintro h; rw [h] at hopen; cases hopen
  split at htask
  · rw [hservice] at htask
    cases htask.1
  · exact hopen
  · exact hnot
  · exact hnot
  · exact hnot

theorem State.serveDepart_keepsForm (s : State) (n : Fin 32)
    (hheader : s.table.service ≠ .noService → (s.serveDepart n).mem.header = s.mem.header) :
    s.keepsForm (s.serveDepart n) := by
  have hkind := s.serveDepart_kind n
  obtain ⟨m, k, N, h⟩ := s.serveDepart_frame n
  rw [h] at hheader hkind ⊢
  rcases hkind with hkind | ⟨hservice, hkind⟩
  · exact State.keepsForm_of_same hkind rfl rfl rfl rfl rfl rfl hheader
  · refine State.keepsForm_of_move hservice rfl (fun hs => ?_) (by rw [hservice]; rfl)
    obtain ⟨-, hstop, hterm, hround, hmax⟩ := State.form_of_inService hs hservice
    refine ⟨hmax, ?_⟩
    rw [show State.mem { s with mem := m } = m from rfl] at hheader
    simp only [hservice]
    rw [hheader (by simp [hservice])]
    exact ⟨by rw [show k = .inSection from hkind]; simp, hstop, hterm, hround⟩

theorem State.serveArrive_keepsForm (s : State) (n : Fin 32)
    (hheader : s.table.service ≠ .noService → (s.serveArrive n).mem.header = s.mem.header) :
    s.keepsForm (s.serveArrive n) := by
  rcases hr : (stateRefusal s.table.service).or (s.arriveFault n) with _ | r
  · obtain ⟨hstate, hfault⟩ := Option.or_eq_none_iff.mp hr
    have hservice := stateRefusal_eq_none.1 hstate
    have hlimit := State.round_le_of_not_limit (State.roundLimit_of_arriveFault hfault)
    obtain ⟨m, N, h⟩ := State.serveArrive_accepted_spec hr
    have hheader := hheader (by simp [hservice])
    rw [h] at hheader ⊢
    by_cases hterm : s.arriveTarget n = s.mem.header.terminus
    · refine State.keepsForm_of_move hservice rfl (fun hs => ?_) (by simp [hterm, ServiceState.isOpen])
      obtain ⟨-, -, -, hround, -⟩ := State.form_of_inService hs hservice
      refine ⟨hlimit, ?_⟩
      simp only [if_pos hterm]
      exact ⟨trivial, hterm.trans (by rw [← hheader]), by omega⟩
    · refine State.keepsForm_of_move hservice rfl (fun hs => ?_) (by simp [hterm, hservice, ServiceState.isOpen])
      obtain ⟨-, hstop, hne, hround, -⟩ := State.form_of_inService hs hservice
      refine ⟨hlimit, ?_⟩
      simp only [if_neg hterm, hservice]
      rw [show m.header = s.mem.header from hheader]
      exact ⟨by simp, State.arriveTarget_lt hfault hstop hne, hterm, by omega⟩
  · rw [State.serveArrive_of_refused hr] at hheader ⊢
    exact s.refuseJourney_keepsForm n r hheader

theorem State.servePass_keepsForm (s : State) (n : Fin 32)
    (hheader : s.table.service ≠ .noService → (s.servePass n).mem.header = s.mem.header) :
    s.keepsForm (s.servePass n) := by
  rcases hr : (stateRefusal s.table.service).or s.passFault with _ | r
  · obtain ⟨hstate, hfault⟩ := Option.or_eq_none_iff.mp hr
    have hservice := stateRefusal_eq_none.1 hstate
    have hlimit := State.round_le_of_not_limit (State.roundLimit_of_passFault hfault)
    obtain ⟨m, N, h⟩ := State.servePass_accepted_spec hr
    have hheader := hheader (by simp [hservice])
    rw [h] at hheader ⊢
    refine State.keepsForm_of_move hservice rfl (fun hs => ?_) (by simp [hservice, ServiceState.isOpen])
    obtain ⟨hkind, hstop, hne, hround, -⟩ := State.form_of_inService hs hservice
    obtain ⟨hlt, hterm⟩ := State.passNext_lt hfault hstop hne
    refine ⟨hlimit, ?_⟩
    simp only [hservice]
    rw [show m.header = s.mem.header from hheader]
    exact ⟨hkind, hlt, hterm, by omega⟩
  · rw [State.servePass_of_refused hr] at hheader ⊢
    exact s.refuseJourney_keepsForm n r hheader

theorem State.serveSet_keepsForm (s : State) (n : Fin 32)
    (hheader : s.table.service ≠ .noService → (s.serveSet n).mem.header = s.mem.header) :
    s.keepsForm (s.serveSet n) := by
  rcases s.serveSet_cases n with ⟨r, hr⟩ | ⟨stop, kind, hservice, htarget, hr⟩ <;> rw [hr] at hheader ⊢
  · exact s.refuseJourney_keepsForm n r hheader
  · obtain ⟨hlt, hkind, hsection⟩ := State.setTarget_ok htarget
    obtain ⟨m, N, h⟩ := s.serveSet_accepted_spec n stop kind
    have hheader := hheader (by simp [hservice])
    rw [h] at hheader ⊢
    by_cases hterm : kind = .atStop ∧ stop = s.mem.header.terminus
    · refine State.keepsForm_of_move hservice rfl (fun hs => ?_) (by simp [hterm, ServiceState.isOpen])
      obtain ⟨-, -, -, hround, hmax⟩ := State.form_of_inService hs hservice
      refine ⟨hmax, ?_⟩
      simp only [if_pos hterm]
      exact ⟨hterm.1, hterm.2.trans (by rw [← hheader]), hround⟩
    · refine State.keepsForm_of_move hservice rfl (fun hs => ?_) (by simp [hterm, hservice, ServiceState.isOpen])
      obtain ⟨-, -, -, hround, hmax⟩ := State.form_of_inService hs hservice
      refine ⟨hmax, ?_⟩
      simp only [if_neg hterm, hservice]
      rw [show m.header = s.mem.header from hheader]
      refine ⟨hkind, hlt, fun hs => ?_, hround⟩
      cases hk : kind
      · exact hkind hk
      · exact hterm ⟨hk, hs⟩
      · exact hsection hk hs

/-! ### The engine -/

/-- Without a service an inspection under way is answered NO_SERVICE (R17). -/
theorem State.beginInspection_noService {s : State} (n : Fin 32) (h : s.table.service = .noService) :
    s.beginInspection n = s.setFlight ((Flight.fresh n s.snapshot).judge .noService) := by
  unfold State.beginInspection
  exact if_pos h

theorem State.inspect_keepsForm {s : State} {n : Fin 32} (hmay : s.mayInspect = true)
    (hheader : s.table.service ≠ .noService →
      ((s.take .inspection n).beginInspection n).mem.header = s.mem.header) :
    s.keepsForm ((s.take .inspection n).beginInspection n) := by
  intro hs
  have hchecking : s.table.service ≠ .checking := by
    simp only [State.mayInspect, Bool.and_eq_true, decide_eq_true_eq] at hmay
    exact hmay.1.2
  obtain ⟨f, -, -, -, -, h⟩ := (s.take .inspection n).beginInspection_spec n
  refine ⟨?_, fun hi => ?_⟩
  · rw [h] at hheader ⊢
    exact ⟨State.journeyForm_of_same hs.1 rfl rfl rfl rfl rfl hheader, State.taskFits_of_same hs.2 rfl hheader⟩
  · rcases hi with hopen | ⟨hrounds, -⟩
    · exact .inl (by rw [h]; exact hopen)
    · cases hopen : s.table.service.isOpen with
      | true => exact .inl (by rw [h]; exact hopen)
      | false =>
        have hno := ServiceState.eq_noService_of hopen hchecking
        rw [State.beginInspection_noService n (by exact hno)]
        refine .inr ⟨hrounds, fun g hg => ?_⟩
        rw [State.setFlight_engine, Option.mem_def, Option.some.injEq] at hg
        rw [← hg, Flight.judge_stage]

/-- An inspection that completes without a service enters nothing in the round list. -/
theorem State.completeInspection_keepsForm {s : State} {f : Flight} {v : Verdict} (hflight : s.engine.flight = some f)
    (hstage : f.stage = .judged v)
    (hheader : s.table.service ≠ .noService → (s.completeInspection f v).mem.header = s.mem.header) :
    s.keepsForm (s.completeInspection f v) := by
  have hrounds : v = .noService → (s.completeInspection f v).rounds = s.rounds := by
    rintro rfl
    unfold State.completeInspection State.fillCapture
    dsimp only
    rw [State.rewriteMirror_rounds, State.post_rounds]
    rfl
  obtain ⟨m, r, l, F, N, h⟩ := s.completeInspection_frame f v
  rw [h] at hheader hrounds ⊢
  refine fun hs => ⟨⟨State.journeyForm_of_same hs.1 rfl rfl rfl rfl rfl hheader,
    State.taskFits_of_same hs.2 rfl hheader⟩, fun hi => ?_⟩
  rcases hi with hopen | ⟨hnil, hall⟩
  · exact .inl hopen
  · have := hall f hflight
    rw [hstage, Stage.judged.injEq] at this
    exact .inr ⟨(hrounds this).trans hnil, by simp⟩

/-- A lookup served without a service is none of the inspection's. -/
theorem State.serveEngineLookup_keepsForm (s : State) (media day : Nat)
    (hheader : s.table.service ≠ .noService → (s.serveEngineLookup media day).mem.header = s.mem.header) :
    s.keepsForm (s.serveEngineLookup media day) := by
  have hidle (hall : ∀ f ∈ s.engine.flight, f.stage = .judged .noService) :
      (s.serveEngineLookup media day).rounds = s.rounds ∧
        (s.serveEngineLookup media day).engine.flight = s.engine.flight := by
    unfold State.serveEngineLookup
    dsimp only
    split
    next f hf =>
      rw [if_neg (by rw [hall f hf]; simp)]
      exact ⟨rfl, rfl⟩
    next => exact ⟨rfl, rfl⟩
  obtain ⟨g, l, run, h⟩ := s.serveEngineLookup_frame media day
  rw [h] at hheader hidle ⊢
  refine fun hs => ⟨⟨State.journeyForm_of_same hs.1 rfl rfl rfl rfl rfl hheader,
    State.taskFits_of_same hs.2 rfl hheader⟩, fun hi => ?_⟩
  rcases hi with hopen | ⟨hnil, hall⟩
  · exact .inl hopen
  · obtain ⟨h₁, h₂⟩ := hidle hall
    exact .inr ⟨h₁.trans hnil, fun f hf => hall f (h₂ ▸ hf)⟩

/-- A result of the check unit without a service is none of the inspection's. -/
theorem State.endJob_flight {s : State} (hall : ∀ f ∈ s.engine.flight, f.stage = .judged .noService) :
    s.endJob.engine.flight = s.engine.flight := by
  rcases s.endJob_cases with ⟨r, run, -, -, h⟩ | ⟨r, j, -, -, h⟩ | h <;> rw [h]
  · have hfreed : (s.checkFreed none s.check.tableJob).engine.flight = s.engine.flight := rfl
    unfold State.engineResult
    rw [hfreed]
    split
    · exact hfreed
    next f hf =>
      rw [hall f hf]
      exact hfreed
  · obtain ⟨m, u, j, e, N, h⟩ := (s.checkFreed s.check.engineJob none).tableResult_frame (s.pieceRemainder j r)
    rw [h]
    rfl

theorem State.endJob_rounds (s : State) : s.endJob.rounds = s.rounds := by
  obtain ⟨m, f, u, l, e, k, N, h⟩ := s.endJob_frame
  rw [h]

theorem State.endJob_journey (s : State) : s.endJob.journey = s.journey := by
  obtain ⟨m, f, u, l, e, k, N, h⟩ := s.endJob_frame
  rw [h]

/-- What the end of a job leaves of the inspections. -/
theorem State.endJob_inspectionsFit {s : State} (hi : s.inspectionsFit)
    (h : s.table.service.isOpen = true → s.endJob.table.service.isOpen = true) : s.endJob.inspectionsFit := by
  rcases hi with hopen | ⟨hnil, hall⟩
  · exact .inl (h hopen)
  · exact .inr ⟨(s.endJob_rounds).trans hnil, fun f hf => hall f (State.endJob_flight hall ▸ hf)⟩

theorem State.endJob_keepsForm (s : State)
    (hheader : s.table.service ≠ .noService → s.endJob.mem.header = s.mem.header) : s.keepsForm s.endJob := by
  intro hs
  have hj := s.endJob_journey
  have form (hv : s.endJob.table.service = s.table.service) : s.endJob.journeyForm :=
    State.journeyForm_of_same hs.1 (by rw [hj]) (by rw [hj]) (by rw [hj]) (by rw [hj]) hv hheader
  rcases s.endJob_table with h | ⟨n, table, entry, hheld, h | h | ⟨hfault, hm, h⟩⟩ | ⟨n, offset, count, i, hheld, h⟩
  · exact ⟨⟨form (by rw [h]), State.taskFits_of_same hs.2 h hheader⟩,
      fun hi => State.endJob_inspectionsFit hi (by rw [h]; exact id)⟩
  · have hc := State.service_of_open hs hheld
    obtain ⟨hround, hform⟩ := hs.1
    rw [hc] at hform
    refine ⟨⟨⟨by rwa [hj], by rw [h, hj]; exact hform⟩, State.taskFits_of_not_checking (by rw [h]; simp) (.inl (by rw [h]))⟩,
      fun hi => State.endJob_inspectionsFit hi (by rw [hc]; simp [ServiceState.isOpen])⟩
  · have hc := State.service_of_open hs hheld
    refine ⟨⟨form (by rw [h]), ?_⟩, fun hi => State.endJob_inspectionsFit hi (by rw [h]; exact id)⟩
    rw [State.taskFits, h]
    exact ⟨hc, by simp⟩
  · have hc := State.service_of_open hs hheld
    refine ⟨⟨form (by rw [h]), ?_⟩, fun hi => State.endJob_inspectionsFit hi (by rw [h]; exact id)⟩
    rw [State.taskFits, h, hm]
    exact ⟨hc, fun _ => Memory.origin_of_fieldFault hfault⟩
  · have hc := State.service_of_batch hs hheld
    rcases h with h | h
    · exact ⟨⟨form (by rw [h]), State.taskFits_of_not_checking (by rw [h]; exact hc) (.inl (by rw [h]))⟩,
        fun hi => State.endJob_inspectionsFit hi (by rw [h]; exact id)⟩
    · exact ⟨⟨form (by rw [h]), State.taskFits_of_not_checking (by rw [h]; exact hc)
          (.inr (.inl ⟨_, _, _, _, _, by rw [h]⟩))⟩,
        fun hi => State.endJob_inspectionsFit hi (by rw [h]; exact id)⟩

/-! ### The table unit's takes and completions -/

theorem State.takeOpen_keepsForm {s : State} {n : Fin 32} (hfree : s.table.held = none)
    (hheader : s.table.service ≠ .noService → (s.takeOpen n).mem.header = s.mem.header) : s.keepsForm (s.takeOpen n) := by
  have htable := s.takeOpen_table n
  obtain ⟨m, u, j, N, h⟩ := s.takeOpen_frame n
  rw [h] at hheader htable ⊢
  rcases htable with hu | ⟨hopen, -, hu⟩
  · simp only at hu
    subst hu
    exact State.keepsForm_of_held (fun hs => State.not_checking_of_free hs hfree) rfl rfl (.inl rfl) rfl rfl hheader
  · intro hs
    have hno := ServiceState.eq_noService_of hopen (State.not_checking_of_free hs hfree)
    obtain ⟨hround, hform⟩ := hs.1
    rw [hno] at hform
    simp only at hu
    subst hu
    refine ⟨⟨⟨hround, hform⟩, ⟨rfl, by simp⟩⟩, fun hi => .inr ?_⟩
    rcases hi with hi | hi
    · rw [hopen] at hi
      cases hi
    · exact hi

/-- The completion of an open starts the service at its legal origin (R153). -/
theorem State.completeOpen_keepsForm {s : State} {n : Fin 32} {table entry : Nat}
    (hheld : s.table.held = some (n, .serviceOpen table entry true))
    (hheader : s.table.service ≠ .noService → (s.completeOpen n).mem.header = s.mem.header) :
    s.keepsForm (s.completeOpen n) := by
  intro hs
  have hc := State.service_of_open hs hheld
  have htask := hs.2
  rw [State.taskFits, hheld] at htask
  obtain ⟨hlt, hne⟩ := htask.2 rfl
  obtain ⟨m, F, N, h⟩ := s.completeOpen_frame n
  have hheader := hheader (by simp [hc])
  rw [h] at hheader ⊢
  refine ⟨⟨⟨show 1 ≤ Config.wordMax by decide, ?_⟩, show ServiceState.inService ≠ .checking by simp⟩, fun _ => .inl rfl⟩
  dsimp only
  rw [show m.header = s.mem.header from hheader]
  exact ⟨by simp, hlt, hne, le_rfl⟩

theorem State.completeClose_keepsForm {s : State} (n : Fin 32) (hidle : s.engine.flight = none) :
    s.keepsForm (s.completeClose n) := by
  obtain ⟨m, F, N, h⟩ := s.completeClose_frame n
  rw [h]
  exact State.keepsForm_of_noService rfl rfl rfl rfl rfl rfl fun _ => ⟨rfl, by simp [hidle]⟩

theorem State.takeClose_keepsForm {s : State} {n : Fin 32} (hfree : s.table.held = none)
    (hheader : s.table.service ≠ .noService → (s.takeClose n).mem.header = s.mem.header) :
    s.keepsForm (s.takeClose n) := by
  rcases s.takeClose_cases n with ⟨answer, h⟩ | ⟨hopen, ⟨hidle, h⟩ | h⟩ <;> rw [h] at hheader ⊢
  · rw [State.finishTable_eq, State.take_table_eq] at hheader ⊢
    exact State.keepsForm_of_held (fun hs => State.not_checking_of_free hs hfree) rfl rfl (.inl rfl) rfl rfl hheader
  · obtain ⟨m, F, N, h⟩ := (s.take .table n).completeClose_frame n
    rw [h]
    exact State.keepsForm_of_noService rfl rfl rfl rfl rfl rfl
      fun _ => ⟨rfl, by rw [State.take_engine, hidle]; simp⟩
  · intro hs
    refine ⟨⟨State.journeyForm_of_same hs.1 rfl rfl rfl rfl rfl hheader, hopen⟩, fun _ => .inl hopen⟩

/-! ### Every step -/

theorem State.keepsForm.event {s t : State} (h : s.keepsForm t) : s.keepsForm t.driveNote.settled := h

theorem State.keepsForm.asking {s t : State} (h : s.keepsForm t) : s.keepsForm t.advanceDeny.driveNote := h

theorem Run.keepsForm {s t : State} {c : Instr} (h : Run s c t) : s.keepsForm t := by
  have hheader : c ≠ .powerOn → s.table.service ≠ .noService → t.mem.header = s.mem.header := h.header_kept
  cases h with
  | absent => exact State.keepsForm_of_same rfl rfl rfl rfl rfl rfl rfl fun _ => rfl
  | powerOn => exact State.keepsForm_of_noService rfl rfl rfl rfl rfl rfl fun _ => ⟨rfl, by rintro f ⟨⟩⟩
  | @access c a data lanes hc =>
    have hheader := hheader (by rintro rfl; cases hc)
    change s.table.service ≠ .noService → (s.access a data lanes).mem.header = s.mem.header at hheader
    show s.keepsForm (s.access a data lanes)
    rcases s.access_cases a data lanes with ⟨-, h⟩ | ⟨rfl, h⟩ | ⟨-, h⟩ | ⟨-, h⟩ | ⟨-, -, -, -, h⟩ <;> rw [h] at hheader ⊢
    · obtain ⟨m, q, F, N, h⟩ := s.writeMemoryWord_frame a data lanes
      rw [h] at hheader ⊢
      exact State.keepsForm_of_same rfl rfl rfl rfl rfl rfl rfl hheader
    · cases hw : resetWrite data lanes with
      | true =>
        obtain ⟨m, i, j, u, N, hf⟩ := State.engineReset_frame { s with notice := s.notice.control data }
        rw [State.writeEngControl_of_resetWrite _ hw, hf]
        exact State.keepsForm_of_noService rfl rfl rfl rfl rfl rfl fun _ => ⟨rfl, by rintro f ⟨⟩⟩
      | false =>
        rw [State.writeEngControl_of_not_resetWrite _ hw]
        exact State.keepsForm_of_same rfl rfl rfl rfl rfl rfl rfl fun _ => rfl
    · obtain ⟨m, h⟩ := s.clearEvents_frame data lanes
      rw [h] at hheader ⊢
      refine State.keepsForm_of_same ?_ ?_ ?_ ?_ rfl rfl rfl hheader <;> dsimp only <;> split <;> rfl
    · exact State.keepsForm_of_same rfl rfl rfl rfl rfl rfl rfl fun _ => rfl
    · exact State.keepsForm_of_same rfl rfl rfl rfl rfl rfl rfl fun _ => rfl
  | ignored => exact State.keepsForm_of_same rfl rfl rfl rfl rfl rfl rfl fun _ => rfl
  | mirrorRead lanes =>
    refine State.keepsForm_of_same ?_ ?_ ?_ ?_ rfl rfl rfl fun _ => rfl <;>
      rw [State.settled_journey, State.readMirrorWord0] <;> dsimp only <;> split <;> rfl
  | clockEdge hc =>
    have hheader := hheader (by rintro rfl; rcases hc with hc | hc <;> cases hc)
    obtain ⟨m, k, d, F, h⟩ := s.clockEdge_frame
    rw [h] at hheader ⊢
    exact State.keepsForm_of_same rfl rfl rfl rfl rfl rfl rfl hheader
  | loseClock =>
    have hheader := hheader (by simp)
    obtain ⟨m, F, h⟩ := s.loseClock_frame
    rw [h] at hheader ⊢
    exact State.keepsForm_of_same rfl rfl rfl rfl rfl rfl rfl hheader
  | inspect hhead hmay =>
    have hheader := hheader (by simp)
    rw [State.settled_mem, State.driveNote_mem] at hheader
    exact (State.inspect_keepsForm hmay hheader).event
  | inspectCompletion hflight hstage =>
    have hheader := hheader (by simp)
    rw [State.settled_mem, State.driveNote_mem] at hheader
    exact (State.completeInspection_keepsForm hflight hstage hheader).event
  | checkJobEnd =>
    have hheader := hheader (by simp)
    rw [State.driveNote_mem, State.advanceDeny_mem] at hheader
    exact (State.endJob_keepsForm s.chooseCheck hheader).asking
  | checkPieceEnd =>
    obtain ⟨u, h⟩ := s.chooseCheck.endPiece_frame
    rw [h]
    exact State.keepsForm_of_same rfl rfl rfl rfl rfl rfl rfl fun _ => rfl
  | engineLookup =>
    have hheader := hheader (by simp)
    rw [State.settled_mem, State.driveNote_mem] at hheader
    exact (State.serveEngineLookup_keepsForm s _ _ hheader).event
  | @probeLookup media =>
    have hheader := hheader (by simp)
    have htable := s.serveProbe_table media
    obtain ⟨m, u, N, h⟩ := s.serveProbe_frame media
    rw [h] at hheader htable ⊢
    rcases htable with hu | ⟨⟨n, hheld⟩, hu⟩
    · exact State.keepsForm_of_same rfl rfl rfl rfl hu rfl rfl hheader
    · refine State.keepsForm_of_held (fun hs => ?_) rfl rfl (.inl (congrArg TableUnit.held hu)) rfl rfl hheader
      have := hs.2
      rw [State.taskFits, hheld] at this
      exact this
  | @add media reason expiry =>
    have hheader := hheader (by simp)
    have htable := s.applyAdd_table media reason expiry
    obtain ⟨m, u, d, F, N, h⟩ := s.applyAdd_frame media reason expiry
    rw [h] at hheader htable ⊢
    exact State.keepsForm_of_afterBatch htable rfl rfl rfl hheader
  | @delete media =>
    have hheader := hheader (by simp)
    have htable := s.applyDelete_table media
    obtain ⟨m, u, d, N, h⟩ := s.applyDelete_frame media
    rw [h] at hheader htable ⊢
    exact State.keepsForm_of_afterBatch htable rfl rfl rfl hheader
  | clear =>
    have hheader := hheader (by simp)
    have htable := s.applyClear_table
    obtain ⟨m, u, d, N, h⟩ := s.applyClear_frame
    rw [h] at hheader htable ⊢
    exact State.keepsForm_of_afterBatch htable rfl rfl rfl hheader
  | sweepStep =>
    have hheader := hheader (by simp)
    obtain ⟨m, h⟩ := s.applySweepStep_frame
    rw [h] at hheader ⊢
    exact State.keepsForm_of_same rfl rfl rfl rfl rfl rfl rfl hheader
  | depart =>
    have hheader := hheader (by simp)
    rw [State.settled_mem, State.driveNote_mem] at hheader
    exact (s.serveDepart_keepsForm _ hheader).event
  | arrive =>
    have hheader := hheader (by simp)
    rw [State.settled_mem, State.driveNote_mem] at hheader
    exact (s.serveArrive_keepsForm _ hheader).event
  | pass =>
    have hheader := hheader (by simp)
    rw [State.settled_mem, State.driveNote_mem] at hheader
    exact (s.servePass_keepsForm _ hheader).event
  | set =>
    have hheader := hheader (by simp)
    rw [State.settled_mem, State.driveNote_mem] at hheader
    exact (s.serveSet_keepsForm _ hheader).event
  | badEvent =>
    have hheader := hheader (by simp)
    rw [State.settled_mem, State.driveNote_mem] at hheader
    exact (s.refuseJourney_keepsForm _ _ hheader).event
  | @clockSet n =>
    have hheader := hheader (by simp)
    obtain ⟨m, k, d, F, N, h⟩ := s.serveClockSet_frame n
    rw [h] at hheader ⊢
    exact State.keepsForm_of_same rfl rfl rfl rfl rfl rfl rfl hheader
  | serviceOpen hhead =>
    have hheader := hheader (by simp)
    rw [State.driveNote_mem, State.advanceDeny_mem] at hheader
    exact (State.takeOpen_keepsForm (s := s.chooseCheck) (State.head_of_tableHead hhead).1 hheader).asking
  | serviceOpenCompletion hheld =>
    have hheader := hheader (by simp)
    rw [State.settled_mem, State.driveNote_mem] at hheader
    exact (State.completeOpen_keepsForm hheld hheader).event
  | serviceClose hhead =>
    have hheader := hheader (by simp)
    rw [State.settled_mem, State.driveNote_mem] at hheader
    exact (State.takeClose_keepsForm (State.head_of_tableHead hhead).1 hheader).event
  | serviceCloseCompletion hheld hidle => exact (State.completeClose_keepsForm _ hidle).event
  | @denyBatch n hhead =>
    have hheader := hheader (by simp)
    have hfree := (State.head_of_tableHead hhead).1
    have htable := s.chooseCheck.takeBatch_table n
    obtain ⟨m, u, j, N, h⟩ := s.chooseCheck.takeBatch_frame n
    rw [h] at hheader htable ⊢
    refine State.keepsForm_of_held (fun hs => State.not_checking_of_free hs hfree) rfl rfl ?_ rfl rfl hheader
    rcases htable with hu | ⟨offset, count, hu⟩
    · exact .inl (congrArg TableUnit.held hu)
    · exact .inr (.inl ⟨_, _, _, _, _, congrArg TableUnit.held hu⟩)
  | @denyProbe n hhead =>
    have hheader := hheader (by simp)
    have hfree := (State.head_of_tableHead hhead).1
    obtain ⟨m, N, h⟩ := s.takeProbe_frame n
    rw [h] at hheader ⊢
    exact State.keepsForm_of_held (fun hs => State.not_checking_of_free hs hfree) rfl rfl (.inr (.inr ⟨_, rfl⟩)) rfl rfl
      hheader

/-- Settles O53, by `Run.keepsForm`. -/
theorem stepKeepsServiceForm : Obligations.StepKeepsServiceForm := by
  intro s t hs h
  exact step_induction (p := State.keepsForm)
    (fun s => State.keepsForm_of_same rfl rfl rfl rfl rfl rfl rfl fun _ => rfl) (fun _ _ _ _ hr => hr.keepsForm) h hs

end Sys2Proof.Machine
end

section
/-!
Every step keeps NOTE_N with the causes, FIRST_FAULT with the capture, and the clock in its form.
-/
namespace Sys2Proof.Machine

/-! ### NOTE_N -/

/-- The beginning of the free units' work has no part in the causes. -/
@[simp] theorem State.settled_anyPending (s : State) : s.settled.anyPending = s.anyPending := rfl

theorem State.event_noteAgrees (s : State) : s.driveNote.settled.noteAgrees := by
  rw [State.noteAgrees, State.settled_anyPending, State.settled_notice]
  exact s.driveNote_noteAgrees

/-- A command leaves the state, or changes what no cause depends on, or ends with NOTE_N driven. -/
theorem Run.drives {s t : State} {c : Instr} (h : Run s c t) : t = s ∨ t = s.settled ∨
    (∃ lanes, t = (s.readMirrorWord0 lanes).settled) ∨ ∃ u : State, t = u.driveNote ∨ t = u.driveNote.settled := by
  cases h with
  | absent => exact .inl rfl
  | ignored => exact .inr (.inl rfl)
  | mirrorRead lanes => exact .inr (.inr (.inl ⟨lanes, rfl⟩))
  | checkJobEnd | add | delete | clear | serviceOpen | denyBatch => exact .inr (.inr (.inr ⟨_, .inl rfl⟩))
  | _ => exact .inr (.inr (.inr ⟨_, .inr rfl⟩))

theorem State.readMirrorWord0_anyPending (s : State) (lanes : Lanes) :
    (s.readMirrorWord0 lanes).anyPending = s.anyPending := by
  unfold State.readMirrorWord0
  dsimp only
  split <;> rfl

/-- The end of every event drives NOTE_N by the causes it leaves; what drives it not has no part in the causes. -/
theorem Run.keepsNote {s t : State} {c : Instr} (h : Run s c t) : s.noteAgrees → t.noteAgrees := by
  rcases h.drives with rfl | rfl | ⟨lanes, rfl⟩ | ⟨u, rfl | rfl⟩
  · exact id
  · exact id
  · exact fun hs => Eq.trans hs (congrArg (! ·) (s.readMirrorWord0_anyPending lanes).symm)
  · exact fun _ => u.driveNote_noteAgrees
  · exact fun _ => u.event_noteAgrees

/-! ### The capture -/

/-- What the statement claims of FIRST_FAULT and the capture. -/
def State.keepsCapture (s t : State) : Prop := s.captureAgrees → t.captureAgrees

theorem State.keepsCapture_of_same {s t : State} (hflags : t.notice.flags = s.notice.flags)
    (hcapture : t.journey.capture = s.journey.capture) : s.keepsCapture t := by
  intro hs
  rw [State.captureAgrees, hcapture, ← hs, State.flag, hflags]
  rfl

/-- A flag other than FIRST_FAULT raised has no part in the capture. -/
theorem State.keepsCapture_of_raise {s t : State} {f : EventFlag} (hf : f ≠ .firstFault)
    (hflags : t.notice.flags = s.notice.flags ∨ t.notice.flags = s.notice.flags ||| f.bit)
    (hcapture : t.journey.capture = s.journey.capture) : s.keepsCapture t := by
  rcases hflags with h | h
  · exact State.keepsCapture_of_same h hcapture
  · intro hs
    rw [State.captureAgrees, hcapture, ← hs, State.flag, h, BitVec.getLsbD_or, EventFlag.getLsbD_bit,
      decide_eq_false (Ne.symm hf), Bool.or_false]
    rfl

/-- A re-arm empties the capture and clears FIRST_FAULT (R137). -/
theorem State.keepsCapture_of_rearm {s t : State} {w : BitVec 9}
    (hflags : t.notice.flags = w &&& ~~~ EventFlag.firstFault.bit) (hcapture : t.journey.capture = none) :
    s.keepsCapture t := by
  intro _
  rw [State.captureAgrees, hcapture, State.flag, hflags, BitVec.getLsbD_and, BitVec.getLsbD_not, EventFlag.getLsbD_bit]
  simp

theorem State.keepsCapture.trans {s t u : State} (h₁ : s.keepsCapture t) (h₂ : t.keepsCapture u) : s.keepsCapture u :=
  fun hs => h₂ (h₁ hs)

theorem State.writeByte_keepsCapture (s : State) (a : Nat) (b : Byte) : s.keepsCapture (s.writeByte a b) := by
  have hcapture : (s.writeByte a b).journey.capture = s.journey.capture := by
    obtain ⟨m, q, F, N, h⟩ := s.writeByte_frame a b
    rw [h]
  rcases s.writeByte_flags a b with h | h | h
  · exact State.keepsCapture_of_same h hcapture
  · exact State.keepsCapture_of_raise (f := .cellMisuse) (by decide) (.inr h) hcapture
  · exact State.keepsCapture_of_raise (f := .guardHit) (by decide) (.inr h) hcapture

theorem State.writeMemoryWord_keepsCapture (s : State) (a : Nat) (data : Word) (lanes : Lanes) :
    s.keepsCapture (s.writeMemoryWord a data lanes) := by
  have high : s.keepsCapture (if lanes.high then s.writeByte (a + 1) (highByte data) else s) := by
    split
    · exact s.writeByte_keepsCapture _ _
    · exact id
  unfold State.writeMemoryWord
  dsimp only
  split
  · exact high.trans (State.writeByte_keepsCapture _ _ _)
  · exact high

theorem State.access_keepsCapture (s : State) (a : Nat) (data : Word) (lanes : Lanes) :
    s.keepsCapture (s.access a data lanes) := by
  rcases s.access_cases a data lanes with ⟨-, h⟩ | ⟨-, h⟩ | ⟨-, h⟩ | ⟨-, h⟩ | ⟨-, -, -, -, h⟩ <;> rw [h]
  · exact s.writeMemoryWord_keepsCapture a data lanes
  · cases hw : resetWrite data lanes with
    | true =>
      rw [State.writeEngControl_of_resetWrite _ hw]
      obtain ⟨m, i, j, u, N, h⟩ := State.engineReset_frame { s with notice := s.notice.control data }
      rw [h]
      exact State.keepsCapture_of_rearm (w := 0#9) (show 0#9 = 0#9 &&& ~~~ EventFlag.firstFault.bit by decide) rfl
    | false =>
      rw [State.writeEngControl_of_not_resetWrite _ hw]
      refine State.keepsCapture_of_same ?_ rfl
      dsimp only
      split <;> rfl
  · obtain ⟨m, h⟩ := s.clearEvents_frame data lanes
    rw [h]
    intro hs
    change (s.notice.flags &&& ~~~ laneFlags data lanes).getLsbD 8 = _
    rw [BitVec.getLsbD_and, BitVec.getLsbD_not, show s.notice.flags.getLsbD 8 = _ from hs]
    cases (laneFlags data lanes).getLsbD 8 <;> simp
  · exact State.keepsCapture_of_same rfl rfl
  · exact id

/-- The amount of an inspection judged `v` (R29). -/
def State.amountDue (s : State) (f : Flight) (v : Verdict) : Nat :=
  s.mem.amount v f.zoneCount f.coveredCount
    (f.classUsed (s.inspectParams f.cell) (Ticket.ofImage (s.cellBody f.cell)) v) f.storedAmount

/-- A completion fills an ARMED capture of a fault-class verdict, with FIRST_FAULT, and leaves it and the flags otherwise
(R32, R136). -/
theorem State.completeInspection_capture (s : State) (f : Flight) (v : Verdict) :
    (s.completeInspection f v).journey.capture =
      (if v.faultClass && s.journey.capture.isNone then some (s.captureRecord f v (s.amountDue f v)) else s.journey.capture) ∧
    (s.completeInspection f v).notice.flags =
      (if v.faultClass && s.journey.capture.isNone then s.notice.flags ||| EventFlag.firstFault.bit
        else s.notice.flags) := by
  unfold State.completeInspection State.fillCapture
  dsimp only
  rw [State.rewriteMirror_notice, State.post_flags, State.rewriteMirror_journey, State.post_journey]
  refine ⟨?_, ?_⟩
  · split <;> rfl
  · split <;> rfl

theorem State.completeInspection_keepsCapture (s : State) (f : Flight) (v : Verdict) :
    s.keepsCapture (s.completeInspection f v) := by
  obtain ⟨hcapture, hflags⟩ := s.completeInspection_capture f v
  split at hcapture
  next hfill =>
    rw [if_pos hfill] at hflags
    intro _
    rw [State.captureAgrees, hcapture, State.flag, hflags, BitVec.getLsbD_or, EventFlag.getLsbD_bit]
    simp
  next hfill =>
    rw [if_neg hfill] at hflags
    exact State.keepsCapture_of_same hflags hcapture

theorem State.serveArrive_keepsCapture (s : State) (n : Fin 32) : s.keepsCapture (s.serveArrive n) := by
  rcases hr : (stateRefusal s.table.service).or (s.arriveFault n) with _ | r
  · obtain ⟨m, N, h⟩ := State.serveArrive_accepted_spec hr
    intro hs
    have hterm : (if s.arriveTarget n = s.mem.header.terminus then EventFlag.terminus.bit else 0#9).getLsbD
        EventFlag.firstFault.number = false := by
      split <;> decide
    rw [h, State.captureAgrees, State.flag]
    dsimp only
    rw [BitVec.getLsbD_or, BitVec.getLsbD_or, EventFlag.getLsbD_bit, hterm]
    by_cases hk : s.mem.boundaryCount (s.arrivePath (s.arriveTarget n)) = 0
    · rw [if_pos hk, if_pos hk, show s.notice.flags.getLsbD EventFlag.firstFault.number = _ from hs]
      simp
    · rw [if_neg hk, if_neg hk]
      simp [EventFlag.getLsbD_bit]
  · obtain ⟨m, N, h⟩ := s.refuseJourney_frame n r
    rw [State.serveArrive_of_refused hr, h]
    exact State.keepsCapture_of_same rfl rfl

theorem State.servePass_keepsCapture (s : State) (n : Fin 32) : s.keepsCapture (s.servePass n) := by
  rcases hr : (stateRefusal s.table.service).or s.passFault with _ | r
  · obtain ⟨m, N, h⟩ := State.servePass_accepted_spec hr
    intro hs
    rw [h, State.captureAgrees, State.flag]
    dsimp only
    split
    · exact hs
    · simp [EventFlag.getLsbD_bit]
  · obtain ⟨m, N, h⟩ := s.refuseJourney_frame n r
    rw [State.servePass_of_refused hr, h]
    exact State.keepsCapture_of_same rfl rfl

theorem State.serveSet_keepsCapture (s : State) (n : Fin 32) : s.keepsCapture (s.serveSet n) := by
  rcases s.serveSet_cases n with ⟨r, hr⟩ | ⟨stop, kind, -, -, hr⟩ <;> rw [hr]
  · obtain ⟨m, N, h⟩ := s.refuseJourney_frame n r
    rw [h]
    exact State.keepsCapture_of_same rfl rfl
  · obtain ⟨m, N, h⟩ := s.serveSet_accepted_spec n stop kind
    rw [h]
    refine State.keepsCapture_of_raise (f := .terminus) (by decide) ?_ rfl
    dsimp only
    split
    · exact .inr rfl
    · exact .inl (BitVec.or_zero ..)

theorem State.completeClose_keepsCapture (s t : State) (n : Fin 32) : s.keepsCapture (t.completeClose n) := by
  have hflags := t.completeClose_flags n
  obtain ⟨m, F, N, h⟩ := t.completeClose_frame n
  rw [h] at hflags ⊢
  exact State.keepsCapture_of_rearm hflags rfl

theorem State.takeClose_keepsCapture (s : State) (n : Fin 32) : s.keepsCapture (s.takeClose n) := by
  rcases s.takeClose_cases n with ⟨answer, h⟩ | ⟨-, ⟨-, h⟩ | h⟩ <;> rw [h]
  · rw [State.finishTable_eq, State.take_table_eq]
    exact State.keepsCapture_of_same rfl rfl
  · exact s.completeClose_keepsCapture _ n
  · exact State.keepsCapture_of_same rfl rfl

theorem State.keepsCapture.event {s t : State} (h : s.keepsCapture t) : s.keepsCapture t.driveNote.settled := h

theorem State.keepsCapture.asking {s t : State} (h : s.keepsCapture t) : s.keepsCapture t.advanceDeny.driveNote := h

theorem State.keepsCapture.edited {s t : State} (h : s.keepsCapture t) :
    s.keepsCapture t.chooseCheck.beginLookup.driveNote := h

theorem Run.keepsCapture {s t : State} {c : Instr} (h : Run s c t) : s.keepsCapture t := by
  have same {u : State} (hf : u.notice.flags = s.notice.flags) (hc : u.journey.capture = s.journey.capture) :
      s.keepsCapture u := State.keepsCapture_of_same hf hc
  cases h with
  | absent => exact id
  | powerOn => exact fun _ => show State.reset.flag .firstFault = State.reset.journey.capture.isSome by decide
  | access => exact (s.access_keepsCapture _ _ _).event
  | ignored => exact same rfl rfl
  | mirrorRead lanes =>
    refine same rfl ?_
    rw [State.settled_journey, State.readMirrorWord0]
    dsimp only
    split <;> rfl
  | clockEdge =>
    have hflags := s.clockEdge_flags
    obtain ⟨m, k, d, F, h⟩ := s.clockEdge_frame
    rw [h] at hflags ⊢
    exact (State.keepsCapture_of_raise (f := .dayChange) (by decide) hflags rfl).event
  | loseClock =>
    have hflags : s.loseClock.notice.flags = s.notice.flags ||| EventFlag.clockLost.bit := rfl
    obtain ⟨m, F, h⟩ := s.loseClock_frame
    rw [h] at hflags ⊢
    exact (State.keepsCapture_of_raise (f := .clockLost) (by decide) (.inr hflags) rfl).event
  | @inspect n =>
    obtain ⟨f, -, -, -, -, h⟩ := (s.take .inspection n).beginInspection_spec n
    rw [h, State.take_inspection_eq]
    exact (same rfl rfl).event
  | inspectCompletion => exact (s.completeInspection_keepsCapture _ _).event
  | checkJobEnd =>
    obtain ⟨m, f, u, l, e, k, N, h⟩ := s.chooseCheck.endJob_frame
    rw [h]
    exact (same rfl rfl).asking
  | checkPieceEnd =>
    obtain ⟨u, h⟩ := s.chooseCheck.endPiece_frame
    rw [h]
    exact (same rfl rfl).event
  | engineLookup =>
    obtain ⟨f, l, r, h⟩ := s.serveEngineLookup_frame _ _
    rw [h]
    exact (same rfl rfl).event
  | probeLookup =>
    obtain ⟨m, u, N, h⟩ := s.serveProbe_frame _
    rw [h]
    exact (same rfl rfl).event
  | @add media reason expiry =>
    have hflags := s.applyAdd_flags media reason expiry
    obtain ⟨m, u, d, F, N, h⟩ := s.applyAdd_frame media reason expiry
    rw [h] at hflags ⊢
    refine State.keepsCapture.edited (State.keepsCapture_of_raise (f := .denyFull) (by decide) ?_ rfl)
    dsimp only at hflags ⊢
    split at hflags
    · exact .inr hflags
    · exact .inl hflags
  | delete =>
    obtain ⟨m, u, d, N, h⟩ := s.applyDelete_frame _
    rw [h]
    exact (same rfl rfl).edited
  | clear =>
    obtain ⟨m, u, d, N, h⟩ := s.applyClear_frame
    rw [h]
    exact (same rfl rfl).edited
  | sweepStep =>
    obtain ⟨m, h⟩ := s.applySweepStep_frame
    rw [h]
    exact (same rfl rfl).event
  | depart =>
    obtain ⟨m, k, N, h⟩ := s.serveDepart_frame _
    rw [h]
    exact (same rfl rfl).event
  | arrive => exact (s.serveArrive_keepsCapture _).event
  | pass => exact (s.servePass_keepsCapture _).event
  | set => exact (s.serveSet_keepsCapture _).event
  | badEvent =>
    obtain ⟨m, N, h⟩ := s.serveBadEvent_frame _
    rw [h]
    exact (same rfl rfl).event
  | @clockSet n =>
    have hflags := s.serveClockSet_flags n
    obtain ⟨m, k, d, F, N, h⟩ := s.serveClockSet_frame n
    rw [h] at hflags ⊢
    exact (State.keepsCapture_of_raise (f := .dayChange) (by decide) hflags rfl).event
  | serviceOpen =>
    obtain ⟨m, u, j, N, h⟩ := s.chooseCheck.takeOpen_frame _
    rw [h]
    exact (same rfl rfl).asking
  | @serviceOpenCompletion n =>
    have hflags := s.completeOpen_flags n
    obtain ⟨m, F, N, h⟩ := s.completeOpen_frame n
    rw [h] at hflags ⊢
    exact (State.keepsCapture_of_rearm hflags rfl).event
  | serviceClose => exact (s.takeClose_keepsCapture _).event
  | serviceCloseCompletion => exact (s.completeClose_keepsCapture s _).event
  | denyBatch =>
    obtain ⟨m, u, j, N, h⟩ := s.chooseCheck.takeBatch_frame _
    rw [h]
    exact (same rfl rfl).asking
  | denyProbe =>
    obtain ⟨m, N, h⟩ := s.takeProbe_frame _
    rw [h]
    exact (same rfl rfl).event

/-! ### The clock -/

/-- What the statement claims of the clock. -/
def Clock.keepsForm (c d : Clock) : Prop :=
  (c.second ≤ 59 ∧ c.minute ≤ 1439 ∧ c.day ≤ Config.wordMax ∧ c.subSecond < Config.edgesPerSecond →
    d.second ≤ 59 ∧ d.minute ≤ 1439 ∧ d.day ≤ Config.wordMax ∧ d.subSecond < Config.edgesPerSecond) ∧
  (c.lossTimer = decide (c.timebase = .running) ∧ (c.valid = true → c.timebase = .running) →
    d.lossTimer = decide (d.timebase = .running) ∧ (d.valid = true → d.timebase = .running))

theorem Clock.keepsForm.refl (c : Clock) : c.keepsForm c := ⟨id, id⟩

/-- The clock after an edge: one more sub-second, or the next second with the sub-second count at 0 (R66, R68). -/
theorem State.clockEdge_clock (s : State) : s.clockEdge.clock =
    if s.clock.subSecond + 1 < Config.edgesPerSecond then
      { s.clock with subSecond := s.clock.subSecond + 1, timebase := .running, lossTimer := true }
    else (State.advanceSecond
      { s with clock := { s.clock with subSecond := 0, timebase := .running, lossTimer := true } }).clock := by
  unfold State.clockEdge
  split <;> rfl

theorem State.clockEdge_keepsForm (s : State) : s.clock.keepsForm s.clockEdge.clock := by
  rw [State.clockEdge_clock]
  split
  next hshort => exact ⟨fun ⟨h₁, h₂, h₃, _⟩ => ⟨h₁, h₂, h₃, hshort⟩, fun _ => ⟨rfl, fun _ => rfl⟩⟩
  next =>
    rw [State.advanceSecond_clock]
    have hzero : 0 < Config.edgesPerSecond := by decide
    dsimp only
    split
    · exact ⟨fun ⟨_, h₂, h₃, _⟩ => ⟨by dsimp only; omega, h₂, h₃, hzero⟩, fun _ => ⟨rfl, fun _ => rfl⟩⟩
    · split
      · exact ⟨fun ⟨_, _, h₃, _⟩ => ⟨by dsimp only; omega, by dsimp only; omega, h₃, hzero⟩, fun _ => ⟨rfl, fun _ => rfl⟩⟩
      · split
        next hday =>
          refine ⟨fun _ => ⟨Nat.zero_le _, Nat.zero_le _, ?_, hzero⟩, fun _ => ⟨rfl, fun _ => rfl⟩⟩
          simp only [Config.wordMax]
          omega
        next => exact ⟨fun ⟨_, _, h₃, _⟩ => ⟨Nat.zero_le _, Nat.zero_le _, h₃, hzero⟩, fun _ => ⟨rfl, fun _ => rfl⟩⟩

/-- The time a CLOCK-SET accepts lies in the ranges (R70). -/
theorem State.clockSetFault_eq_none {s : State} {r : ClockRequest} (h : s.clockSetFault r = none) :
    r.minute ≤ 1439 ∧ r.second ≤ 59 ∧ s.stepTooLarge r = false := by
  unfold State.clockSetFault at h
  split at h
  · cases h
  next hminute =>
    split at h
    · cases h
    next hsecond =>
      split at h
      · cases h
      next hstep => exact ⟨by omega, by omega, by simpa using hstep⟩

/-- A word of a cell lies in its 16 bits. -/
theorem Memory.read16_le (m : Memory) (a : Nat) : m.read16 a ≤ Config.wordMax := by
  have h₀ := (m.read a).isLt
  have h₁ := (m.read (a + 1)).isLt
  simp only [Memory.read16, Memory.readList, leValue, List.range_succ, List.range_zero, List.map_cons,
    List.map_nil, List.nil_append, List.cons_append, Nat.add_zero, Config.wordMax]
  omega

theorem State.serveClockSet_keepsForm (s : State) (n : Fin 32) : s.clock.keepsForm (s.serveClockSet n).clock := by
  unfold State.serveClockSet
  dsimp only
  split
  · rw [State.post_clock, State.take_clock]
    exact .refl _
  next haccept =>
    obtain ⟨hminute, hsecond, -⟩ := State.clockSetFault_eq_none haccept
    obtain ⟨m, F, h⟩ := (s.take .journey n).setClock_frame (s.clockRequest n)
    rw [State.post_clock, h]
    exact ⟨fun _ => ⟨hsecond, hminute, s.mem.read16_le _, show 0 < Config.edgesPerSecond by decide⟩,
      fun _ => ⟨rfl, fun _ => rfl⟩⟩

theorem Run.keepsClock {s t : State} {c : Instr} (h : Run s c t) : s.clock.keepsForm t.clock := by
  by_cases hc : c ∈ [.clk32Edge, .secondAdvance, .lossTimerExpiry, .clockSet, .powerOn]
  · cases h with
    | absent => exact .refl _
    | powerOn =>
      exact ⟨fun _ => ⟨Nat.zero_le _, Nat.zero_le _, Nat.zero_le _, show 0 < Config.edgesPerSecond by decide⟩,
        fun _ => ⟨rfl, fun h => absurd (show false = true from h) (by decide)⟩⟩
    | clockEdge =>
      rw [State.settled_clock, State.driveNote_clock]
      exact s.clockEdge_keepsForm
    | loseClock => exact ⟨id, fun _ => ⟨rfl, fun h => absurd (show false = true from h) (by decide)⟩⟩
    | clockSet =>
      rw [State.settled_clock, State.driveNote_clock]
      exact s.serveClockSet_keepsForm _
    | access h => simp only [List.mem_cons, List.not_mem_nil, or_false] at hc; rcases hc with rfl | rfl | rfl | rfl | rfl <;> cases h
    | _ => simp at hc
  · rw [h.owned.clock.resolve_right hc]
    exact .refl _

/-- Settles O50, by `Run.keepsNote`, `Run.keepsCapture` and `Run.keepsClock`. -/
theorem stepKeepsLineCaptureAndClock : Obligations.StepKeepsLineCaptureAndClock := by
  intro s t h
  refine ⟨?_, ?_, ?_⟩
  · exact step_induction (p := fun s t => s.noteAgrees → t.noteAgrees) (fun _ => id) (fun _ _ _ _ hr => hr.keepsNote) h
  · exact step_induction (p := State.keepsCapture) (fun _ => id) (fun _ _ _ _ hr => hr.keepsCapture) h
  · exact step_induction (p := fun s t => s.clock.keepsForm t.clock) (fun _ => .refl _) (fun _ _ _ _ hr => hr.keepsClock) h

end Sys2Proof.Machine
end

section
/-!
Every step keeps the round list, the deny list and the sweep in their form: what each command makes of the lists.
-/
namespace Sys2Proof.Machine

/-! ### The round list -/

theorem State.engineReset_rounds (s : State) : s.engineReset.rounds = [] := by
  obtain ⟨m, i, j, u, N, h⟩ := s.engineReset_frame
  rw [h]

/-- A lookup of the verdict engine raises the presented count of a medium found, or leaves the round list (R86). -/
theorem State.serveEngineLookup_rounds (s : State) (media day : Nat) :
    (s.serveEngineLookup media day).rounds = s.rounds ∨
      ∃ id, (s.serveEngineLookup media day).rounds = raisePresented s.rounds id := by
  unfold State.serveEngineLookup
  dsimp only
  split
  next f hf =>
    split
    · rw [State.completeDeny_rounds]
      cases denyHit s.deny.list media day with
      | some e => exact .inl rfl
      | none =>
        obtain ⟨g, -, -, h⟩ := State.afterDenyMiss_spec { s with deny := { s.deny with engineLookup := none } } f
        rw [State.afterDenyLookup, h]
        dsimp only
        split
        · exact .inr ⟨_, rfl⟩
        · exact .inl rfl
    · exact .inl rfl
  next => exact .inl rfl

/-- A completion inserts its medium in the round list, or leaves the list (R31). -/
theorem State.completeInspection_rounds (s : State) (f : Flight) (v : Verdict) :
    (s.completeInspection f v).rounds = s.rounds ∨
      ∃ e, e.sequence = f.sequence ∧ (s.completeInspection f v).rounds = (roundInsert s.rounds e).1 := by
  unfold State.completeInspection State.fillCapture State.completedRounds
  dsimp only
  rw [State.rewriteMirror_rounds, State.post_rounds]
  dsimp only
  rw [apply_ite State.rounds, State.raise_rounds, ite_self]
  split
  · split
    · refine .inr ⟨_, ?_, rfl⟩
      rfl
    · exact .inl rfl
  · exact .inl rfl

/-- What a command makes of the round list: it stands, is emptied, has a count raised, or gains the medium of the
inspection that completes (R83 to R89). -/
theorem Run.rounds {s t : State} {c : Instr} (h : Run s c t) : t.rounds = s.rounds ∨ t.rounds = [] ∨
    (∃ id, t.rounds = raisePresented s.rounds id) ∨
    ∃ f e, s.engine.flight = some f ∧ e.sequence = f.sequence ∧ t.rounds = (roundInsert s.rounds e).1 := by
  rcases h.owned.rounds with hsame | hc | hc
  · exact .inl hsame
  · rcases h.of_resets hc with rfl | rfl | ⟨data, rfl⟩
    · exact .inl rfl
    · exact .inr (.inl rfl)
    · exact .inr (.inl (by rw [State.settled_rounds, State.driveNote_rounds, State.engineReset_rounds]))
  · cases h with
    | absent => exact .inl rfl
    | access haccess =>
      simp only [List.mem_cons, List.not_mem_nil, or_false] at hc
      rcases hc with rfl | rfl | rfl | rfl | rfl | rfl | rfl <;> cases haccess
    | engineLookup => exact (s.serveEngineLookup_rounds _ _).imp_right fun h => .inr (.inl h)
    | @inspectCompletion f v hflight hstage =>
      rw [State.settled_rounds, State.driveNote_rounds]
      rcases s.completeInspection_rounds f v with h | ⟨e, he, h⟩
      · exact .inl h
      · exact .inr (.inr (.inr ⟨f, e, hflight, he, h⟩))
    | @arrive n hhead =>
      rw [State.settled_rounds, State.driveNote_rounds]
      rcases hr : (stateRefusal s.table.service).or (s.arriveFault n) with _ | r
      · obtain ⟨m, N, h⟩ := State.serveArrive_accepted_spec hr
        rw [h]
        dsimp only
        split
        · exact .inl rfl
        · exact .inr (.inl rfl)
      · obtain ⟨m, N, h⟩ := s.refuseJourney_frame n r
        rw [State.serveArrive_of_refused hr, h]
        exact .inl rfl
    | @pass n hhead =>
      rw [State.settled_rounds, State.driveNote_rounds]
      rcases hr : (stateRefusal s.table.service).or s.passFault with _ | r
      · obtain ⟨m, N, h⟩ := State.servePass_accepted_spec hr
        rw [h]
        dsimp only
        split
        · exact .inl rfl
        · exact .inr (.inl rfl)
      · obtain ⟨m, N, h⟩ := s.refuseJourney_frame n r
        rw [State.servePass_of_refused hr, h]
        exact .inl rfl
    | serviceOpenCompletion =>
      obtain ⟨m, F, N, h⟩ := s.completeOpen_frame _
      rw [h]
      exact .inr (.inl rfl)
    | @serviceClose n hhead =>
      rw [State.settled_rounds, State.driveNote_rounds]
      rcases s.takeClose_cases n with ⟨answer, h⟩ | ⟨-, ⟨-, h⟩ | h⟩ <;> rw [h]
      · exact .inl rfl
      · obtain ⟨m, F, N, h⟩ := (s.take .table n).completeClose_frame n
        rw [h]
        exact .inr (.inl rfl)
      · exact .inl rfl
    | serviceCloseCompletion =>
      obtain ⟨m, F, N, h⟩ := s.completeClose_frame _
      rw [h]
      exact .inr (.inl rfl)
    | clockEdge hc' => rcases hc' with rfl | rfl <;> simp at hc
    | _ => simp at hc

theorem Run.keepsRounds {s t : State} {c : Instr} (h : Run s c t) : s.roundListSound → t.roundListSound := by
  rintro ⟨hlength, hnodup⟩
  rcases h.rounds with h | h | ⟨id, h⟩ | ⟨f, e, -, -, h⟩ <;> rw [State.roundListSound, h]
  · exact ⟨hlength, hnodup⟩
  · exact ⟨Nat.zero_le _, List.nodup_nil⟩
  · rw [raisePresented_length, raisePresented_mediaId]
    exact ⟨hlength, hnodup⟩
  · exact roundInsert_sound e hlength hnodup

/-! ### The deny list -/

/-- The form of the deny list (R101). -/
abbrev DenyUnit.listSound (u : DenyUnit) : Prop :=
  u.list.length ≤ Config.denyListSize ∧ DenySorted u.list

/-- The sweep in progress stands at an entry of the list (R118). -/
abbrev DenyUnit.sweepSound (u : DenyUnit) : Prop :=
  ∀ w ∈ u.sweep, w.position ∈ u.list.map DenyEntry.mediaId

theorem DenyUnit.sweepSound_of_same {u v : DenyUnit} (hu : u.sweepSound) (hlist : v.list = u.list)
    (hsweep : v.sweep = u.sweep) : v.sweepSound := by
  rwa [DenyUnit.sweepSound, hlist, hsweep]

/-- A sweep begins at the lowest entry (R118). -/
theorem sweepSound_head (l : List DenyEntry) (day : Nat) :
    ∀ w ∈ l.head?.map (fun e => ({ day := day, position := e.mediaId } : Sweep)), w.position ∈ l.map DenyEntry.mediaId := by
  intro w hw
  obtain ⟨e, he, rfl⟩ := Option.mem_map.1 hw
  exact List.mem_map_of_mem (List.mem_of_head? he)

theorem DenyUnit.sweepSound_dayChange {u : DenyUnit} (hu : u.sweepSound) (day : Nat) : (u.dayChange day).sweepSound := by
  rw [DenyUnit.dayChange_spec]
  dsimp only [DenyUnit.sweepSound]
  split
  · exact hu
  · exact sweepSound_head u.list day

theorem DenyUnit.sweepSound_complete {u : DenyUnit} (hu : u.dayWaiting = none → u.sweepSound) : u.complete.sweepSound := by
  rw [DenyUnit.complete_spec]
  dsimp only [DenyUnit.sweepSound]
  cases hday : u.dayWaiting with
  | some day => exact sweepSound_head u.list day
  | none => exact hu hday

/-- A sweep step moves on to an entry that it leaves in the list (R119). -/
theorem DenyUnit.sweepSound_sweepOnce (u : DenyUnit) (hu : u.sweepSound) : u.sweepOnce.sweepSound := by
  unfold DenyUnit.sweepOnce
  split
  next => exact hu
  next w hw =>
    split
    next => exact fun x hx => by cases hx
    next e he =>
      intro x hx
      obtain ⟨y, hy, rfl⟩ := Option.mem_map.1 hx
      have hmem : y ∈ u.list := List.mem_of_find?_eq_some hy
      have hlt : e.mediaId < y.mediaId := by simpa using List.find?_some hy
      refine List.mem_map_of_mem ?_
      dsimp only
      split
      · exact List.mem_filter.2 ⟨hmem, by simpa using hlt.ne'⟩
      · exact hmem

theorem DenyUnit.listSound_of_sublist {u v : DenyUnit} (hu : u.listSound) (h : v.list.Sublist u.list) : v.listSound :=
  ⟨h.length_le.trans hu.1, hu.2.sublist (h.map _)⟩

theorem DenyUnit.sweepOnce_sublist (u : DenyUnit) : u.sweepOnce.list.Sublist u.list := by
  unfold DenyUnit.sweepOnce
  split
  · exact .refl _
  · split
    · exact .refl _
    · dsimp only
      split
      · exact List.filter_sublist
      · exact .refl _

/-- An ADD that finds no full list keeps the form (R111). -/
theorem listSound_denyInsert {l : List DenyEntry} (e : DenyEntry) (hlength : l.length ≤ Config.denyListSize)
    (hsorted : DenySorted l) (hfull : denyFullFor l e.mediaId = false) :
    (denyInsert l e).length ≤ Config.denyListSize ∧ DenySorted (denyInsert l e) := by
  refine ⟨?_, denyInsert_sorted hsorted e⟩
  rw [denyInsert_length hsorted]
  unfold denyFullFor at hfull
  cases hnone : (denyEntry l e.mediaId).isNone with
  | false => simpa using hlength
  | true =>
    rw [hnone, Bool.true_and, decide_eq_false_iff_not] at hfull
    rw [Bool.toNat_true]
    omega

/-! ### What the edits make of the deny list unit -/

theorem State.afterEdit_deny (s : State) (applied : Bool) :
    ∃ e, (s.afterEdit applied).deny = { s.deny with edit := e } := by
  obtain ⟨m, h, e, N, heq⟩ := s.afterEdit_frame applied
  exact ⟨e, by rw [heq]⟩

/-- The list an ADD leaves: with the entry, or as it stands where it is full (R111, R113). -/
theorem State.applyAdd_deny (s : State) (media reason expiry : Nat) : ∃ e, (s.applyAdd media reason expiry).deny =
    DenyUnit.complete { s.deny with
      list := if denyFullFor s.deny.list media then s.deny.list
        else denyInsert s.deny.list { mediaId := media, reason := reason, expiry := expiry }
      edit := e } := by
  unfold State.applyAdd
  split
  · obtain ⟨e, h⟩ := (s.raise .denyFull).afterEdit_deny false
    exact ⟨e, by rw [State.completeDeny_deny, h]; rfl⟩
  · generalize denyInsert .. = l
    obtain ⟨e, h⟩ := (s.setDenyList l).afterEdit_deny true
    exact ⟨e, by rw [State.completeDeny_deny, h, State.setDenyList_deny]⟩

theorem State.applyDelete_deny (s : State) (media : Nat) : ∃ e, (s.applyDelete media).deny =
    DenyUnit.complete { s.deny with list := denyRemove s.deny.list media, edit := e } := by
  obtain ⟨e, h⟩ := (s.setDenyList (denyRemove s.deny.list media)).afterEdit_deny true
  exact ⟨e, by rw [State.applyDelete, State.completeDeny_deny, h, State.setDenyList_deny]⟩

theorem State.applyClear_deny (s : State) : ∃ e, s.applyClear.deny =
    DenyUnit.complete { s.deny with list := [], edit := e } := by
  obtain ⟨e, h⟩ := (s.setDenyList []).afterEdit_deny true
  exact ⟨e, by rw [State.applyClear, State.completeDeny_deny, h, State.setDenyList_deny]⟩

/-- An edit is served with no sweep in progress (R105). -/
theorem State.sweep_of_servedEdit {s : State} {e : Edit} (hbusy : s.deny.busy) (h : s.servedEdit = some e) :
    s.deny.sweep = none := by
  unfold State.servedEdit at h
  split at h
  next hserving =>
    rcases s.deny.choose_edit_iff.1 hserving with hs | ⟨-, -, -, hs, -⟩
    · rw [DenyUnit.busy, hs] at hbusy
      exact hbusy.2
    · exact hs
  next => cases h

/-! ### Every step -/

theorem Run.keepsDenyList {s t : State} {c : Instr} (h : Run s c t) : s.deny.listSound → t.deny.listSound := by
  rintro ⟨hlength, hsorted⟩
  rcases h.owned.denyList with hsame | hc
  · rw [DenyUnit.listSound, hsame]
    exact ⟨hlength, hsorted⟩
  · cases h with
    | absent => exact ⟨hlength, hsorted⟩
    | access haccess =>
      simp only [List.mem_cons, List.not_mem_nil, or_false] at hc
      rcases hc with rfl | rfl | rfl | rfl | rfl <;> cases haccess
    | @add media reason expiry hedit =>
      obtain ⟨e, h⟩ := s.applyAdd_deny media reason expiry
      rw [State.driveNote_deny, State.beginLookup_deny, State.chooseCheck_deny, h]
      rw [DenyUnit.listSound, DenyUnit.beginLookup_list, DenyUnit.complete_list]
      dsimp only
      split
      next => exact ⟨hlength, hsorted⟩
      next hfull => exact listSound_denyInsert _ hlength hsorted (by simpa using hfull)
    | @delete media hedit =>
      obtain ⟨e, h⟩ := s.applyDelete_deny media
      rw [State.driveNote_deny, State.beginLookup_deny, State.chooseCheck_deny, h]
      exact ⟨by simpa using (denyRemove_length_le _ _).trans hlength, by simpa using denyRemove_sorted hsorted _⟩
    | @clear hedit =>
      obtain ⟨e, h⟩ := s.applyClear_deny
      rw [State.driveNote_deny, State.beginLookup_deny, State.chooseCheck_deny, h]
      exact ⟨by simp, by simp [DenySorted]⟩
    | @sweepStep hserving =>
      obtain ⟨m, h⟩ := s.applySweepStep_frame
      rw [State.settled_deny, State.driveNote_deny, h]
      exact DenyUnit.listSound_of_sublist ⟨hlength, hsorted⟩ (by simpa using s.deny.sweepOnce_sublist)
    | powerOn => exact ⟨Nat.zero_le _, List.Pairwise.nil⟩
    | clockEdge hc' => rcases hc' with rfl | rfl <;> simp at hc
    | _ => simp at hc

theorem DenyUnit.sweepSound.advance {u : DenyUnit} (h : u.sweepSound) : u.advance.sweepSound :=
  DenyUnit.sweepSound_of_same h u.advance_list u.advance_sweep

/-- An edit served leaves no sweep but that of a DAY_CHANGE that waited (R106). -/
theorem DenyUnit.sweepSound_edited {u v : DenyUnit} (hsweep : u.sweep = none) {l : List DenyEntry} {e : Option Edit}
    (h : v = DenyUnit.complete { u with list := l, edit := e }) : v.beginLookup.sweepSound := by
  subst h
  exact DenyUnit.sweepSound_of_same (DenyUnit.sweepSound_complete fun _ w hw => by rw [hsweep] at hw; cases hw) rfl rfl

theorem Run.keepsSweep {s t : State} {c : Instr} (h : Run s c t) (hbusy : s.deny.busy) :
    s.deny.sweepSound → t.deny.sweepSound := by
  intro hs
  have dayChange {u : DenyUnit} (h : u = s.deny ∨ ∃ day, u = s.deny.dayChange day) : u.advance.sweepSound := by
    rcases h with h | ⟨day, h⟩ <;> rw [h]
    · exact hs.advance
    · exact (DenyUnit.sweepSound_dayChange hs day).advance
  cases h with
  | absent => exact hs
  | powerOn => exact fun w hw => by cases hw
  | @access c a data lanes =>
    rw [State.settled_deny, State.driveNote_deny]
    refine DenyUnit.sweepSound.advance ?_
    rcases s.access_cases a data lanes with ⟨-, h⟩ | ⟨-, h⟩ | ⟨-, h⟩ | ⟨-, h⟩ | ⟨-, -, -, -, h⟩ <;> rw [h]
    · obtain ⟨m, q, F, N, h⟩ := s.writeMemoryWord_frame a data lanes
      rw [h]
      exact hs
    · cases hw : resetWrite data lanes with
      | true =>
        rw [State.writeEngControl_of_resetWrite _ hw]
        obtain ⟨m, i, j, u, N, h⟩ := State.engineReset_frame { s with notice := s.notice.control data }
        rw [h]
        exact fun w hw => by cases hw
      | false =>
        rw [State.writeEngControl_of_not_resetWrite _ hw]
        exact hs
    · obtain ⟨m, h⟩ := s.clearEvents_frame data lanes
      rw [h]
      exact hs
    · exact hs
    · exact hs
  | ignored => exact hs.advance
  | mirrorRead => exact hs.advance
  | clockEdge =>
    rw [State.settled_deny, State.driveNote_deny]
    exact dayChange s.clockEdge_deny
  | loseClock =>
    obtain ⟨m, F, h⟩ := s.loseClock_frame
    rw [State.settled_deny, State.driveNote_deny, h]
    exact hs.advance
  | @inspect n =>
    obtain ⟨f, -, -, -, -, h⟩ := (s.take .inspection n).beginInspection_spec n
    rw [State.settled_deny, State.driveNote_deny, h]
    exact hs.advance
  | @inspectCompletion f v =>
    obtain ⟨m, r, l, F, N, h⟩ := s.completeInspection_frame f v
    rw [State.settled_deny, State.driveNote_deny, h]
    exact hs.advance
  | checkJobEnd =>
    obtain ⟨m, f, u, l, e, k, N, h⟩ := s.chooseCheck.endJob_frame
    rw [State.driveNote_deny, State.advanceDeny_deny, h]
    exact DenyUnit.sweepSound.advance hs
  | checkPieceEnd =>
    obtain ⟨u, h⟩ := s.chooseCheck.endPiece_frame
    rw [State.settled_deny, State.driveNote_deny, h]
    exact hs.advance
  | engineLookup =>
    obtain ⟨f, l, r, h⟩ := s.serveEngineLookup_frame _ _
    rw [State.settled_deny, State.driveNote_deny, h]
    exact (DenyUnit.sweepSound_complete (u := { s.deny with engineLookup := none }) fun _ => hs).advance
  | probeLookup =>
    obtain ⟨m, u, N, h⟩ := s.serveProbe_frame _
    rw [State.settled_deny, State.driveNote_deny, h]
    exact (DenyUnit.sweepSound_complete (u := { s.deny with probeLookup := none }) fun _ => hs).advance
  | @add media reason expiry hedit =>
    obtain ⟨e, h⟩ := s.applyAdd_deny media reason expiry
    exact DenyUnit.sweepSound_edited (State.sweep_of_servedEdit hbusy hedit) h
  | @delete media hedit =>
    obtain ⟨e, h⟩ := s.applyDelete_deny media
    exact DenyUnit.sweepSound_edited (State.sweep_of_servedEdit hbusy hedit) h
  | clear hedit =>
    obtain ⟨e, h⟩ := s.applyClear_deny
    exact DenyUnit.sweepSound_edited (State.sweep_of_servedEdit hbusy hedit) h
  | sweepStep =>
    obtain ⟨m, h⟩ := s.applySweepStep_frame
    rw [State.settled_deny, State.driveNote_deny, h]
    exact (DenyUnit.sweepSound_complete fun _ => s.deny.sweepSound_sweepOnce hs).advance
  | @depart n =>
    obtain ⟨m, k, N, h⟩ := s.serveDepart_frame n
    rw [State.settled_deny, State.driveNote_deny, h]
    exact hs.advance
  | @arrive n =>
    obtain ⟨m, k, p, r, cap, v, l, F, N, h⟩ := s.serveArrive_frame n
    rw [State.settled_deny, State.driveNote_deny, h]
    exact hs.advance
  | @pass n =>
    obtain ⟨m, p, r, cap, l, F, N, h⟩ := s.servePass_frame n
    rw [State.settled_deny, State.driveNote_deny, h]
    exact hs.advance
  | @set n =>
    obtain ⟨m, k, p, v, F, N, h⟩ := s.serveSet_frame n
    rw [State.settled_deny, State.driveNote_deny, h]
    exact hs.advance
  | @badEvent n =>
    obtain ⟨m, N, h⟩ := s.serveBadEvent_frame n
    rw [State.settled_deny, State.driveNote_deny, h]
    exact hs.advance
  | @clockSet n =>
    rw [State.settled_deny, State.driveNote_deny]
    exact dayChange (s.serveClockSet_deny n)
  | @serviceOpen n =>
    obtain ⟨m, u, j, N, h⟩ := s.chooseCheck.takeOpen_frame n
    rw [State.driveNote_deny, State.advanceDeny_deny, h]
    exact hs.advance
  | @serviceOpenCompletion n =>
    obtain ⟨m, F, N, h⟩ := s.completeOpen_frame n
    rw [State.settled_deny, State.driveNote_deny, h]
    exact hs.advance
  | @serviceClose n =>
    obtain ⟨m, j, u, l, F, N, h⟩ := s.takeClose_frame n
    rw [State.settled_deny, State.driveNote_deny, h]
    exact hs.advance
  | @serviceCloseCompletion n =>
    obtain ⟨m, F, N, h⟩ := s.completeClose_frame n
    rw [State.settled_deny, State.driveNote_deny, h]
    exact hs.advance
  | @denyBatch n =>
    obtain ⟨m, u, j, N, h⟩ := s.chooseCheck.takeBatch_frame n
    rw [State.driveNote_deny, State.advanceDeny_deny, h]
    exact hs.advance
  | @denyProbe n =>
    obtain ⟨m, N, h⟩ := s.takeProbe_frame n
    rw [State.settled_deny, State.driveNote_deny, h]
    exact DenyUnit.sweepSound.advance hs

/-- Settles O51, by `Run.keepsRounds`, `Run.keepsDenyList` and `Run.keepsSweep`. -/
theorem stepKeepsLists : Obligations.StepKeepsLists := by
  intro s t h
  refine ⟨?_, ?_, ?_⟩
  · exact step_induction (p := fun s t => s.roundListSound → t.roundListSound) (fun _ => id)
      (fun _ _ _ _ hr => hr.keepsRounds) h
  · exact step_induction (p := fun s t => s.deny.listSound → t.deny.listSound) (fun _ => id)
      (fun _ _ _ _ hr => hr.keepsDenyList) h
  · exact step_induction (p := fun s t => s.sweepSound → s.deny.busy → t.sweepSound) (fun _ hs _ => hs)
      (fun _ _ _ _ hr hs hbusy => hr.keepsSweep hbusy hs) h

end Sys2Proof.Machine
end

section
/-!
Every step keeps the journey mirror showing the other blocks (R139): an operation rewrites the mirror, or touches neither
its bytes nor what it shows.
-/
namespace Sys2Proof.Machine

/-! ### What the mirror shows -/

/-- The mirror's image depends on memory by three bytes of the header and the train number. -/
theorem State.mirrorImage_congr {s t : State} (himage : ({ t with mem := s.mem } : State).mirrorImage = s.mirrorImage)
    (hmem : s.table.service.isOpen = true → ∀ a, 0x1000 ≤ a → a < 0x1005 → t.mem.read a = s.mem.read a)
    (hservice : t.table.service.isOpen = s.table.service.isOpen) : t.mirrorImage = s.mirrorImage := by
  have hbytes : t.mirrorService = ({ t with mem := s.mem } : State).mirrorService := by
    unfold State.mirrorService
    dsimp only
    rw [hservice]
    cases hopen : s.table.service.isOpen with
    | false => rfl
    | true =>
      have hmem := hmem hopen
      rw [hmem 0x1000 (by omega) (by omega), hmem 0x1001 (by omega) (by omega), hmem 0x1002 (by omega) (by omega),
        hmem 0x1004 (by omega) (by omega)]
  rw [← himage]
  unfold State.mirrorImage
  rw [hbytes]

theorem State.mirrorImage_of_mem {s t : State} (himage : ({ t with mem := s.mem } : State).mirrorImage = s.mirrorImage)
    (hmem : ∀ a, 0x1000 ≤ a → t.mem.read a = s.mem.read a)
    (hservice : t.table.service.isOpen = s.table.service.isOpen) : t.mirrorImage = s.mirrorImage :=
  State.mirrorImage_congr himage (fun _ a ha _ => hmem a ha) hservice

/-- Where neither the mirror's bytes nor what they show change, the mirror goes on showing it. -/
theorem State.mirrorShows_of_same {s t : State} (hs : s.mirrorShows)
    (hbytes : ∀ a, Config.mirrorBase ≤ a → a < Config.scratchBase → t.mem.read a = s.mem.read a)
    (himage : t.mirrorImage = s.mirrorImage) : t.mirrorShows := by
  rw [State.mirrorShows, himage, ← hs]
  refine Memory.readList_congr fun a h₁ h₂ => hbytes a h₁ ?_
  simp only [Config.mirrorBase, Config.mirrorSize, Config.scratchBase] at *
  omega

theorem State.mirrorShows_of_eq {s t : State} (hs : s.mirrorShows) (hmem : t.mem = s.mem)
    (himage : t.mirrorImage = s.mirrorImage) : t.mirrorShows :=
  State.mirrorShows_of_same hs (fun _ _ _ => by rw [hmem]) himage

/-- The mirror rewritten shows the state. -/
theorem State.rewriteMirror_mirrorShows {s : State} (hs : s.memoryCanonical) : s.rewriteMirror.mirrorShows := by
  have hmem (a : Nat) (ha : 0x1000 ≤ a) : s.rewriteMirror.mem.read a = s.mem.read a := by
    refine s.rewriteMirror_sameBytesBut a fun hm => ?_
    have := hm.2
    simp only [Config.scratchBase] at this
    omega
  rw [State.mirrorShows, s.rewriteMirror_readList hs]
  rw [State.rewriteMirror_eq] at hmem ⊢
  generalize s.rewriteMirror.mem = m at hmem ⊢
  exact (State.mirrorImage_of_mem (s := s) (t := { s with mem := m }) rfl hmem rfl).symm

/-- A change of one cell alone leaves the mirror. -/
theorem State.mirrorShows_of_cell {s t : State} {n : Fin 32} (hs : s.mirrorShows) (hcell : s.sameBytesBut t (inCell n))
    (himage : ({ t with mem := s.mem } : State).mirrorImage = s.mirrorImage)
    (hservice : t.table.service.isOpen = s.table.service.isOpen) : t.mirrorShows := by
  have hmem (a : Nat) (ha : Config.mirrorBase ≤ a) : t.mem.read a = s.mem.read a := by
    refine hcell a fun hin => ?_
    have := cellBase_lt n
    have := hin.2
    omega
  refine State.mirrorShows_of_same hs (fun a h _ => hmem a h) (State.mirrorImage_of_mem himage (fun a ha => hmem a ?_) hservice)
  simp only [Config.mirrorBase]
  omega

theorem State.take_inCell (s : State) (q : QueueId) (n : Fin 32) : s.sameBytesBut (s.take q n) (inCell n) :=
  State.setCellState_inCell { s with intake := s.intake.setQueue q (s.intake.queue q).tail } n .taken

theorem State.take_mirrorShows {s : State} (hs : s.mirrorShows) (q : QueueId) (n : Fin 32) : (s.take q n).mirrorShows :=
  State.mirrorShows_of_cell hs (s.take_inCell q n) rfl rfl

theorem State.post_mirrorShows {s : State} (hs : s.mirrorShows) (n : Fin 32) (answer : List Byte)
    (body : Option (List Byte)) : (s.post n answer body).mirrorShows := by
  have hcell := s.post_inCell n answer body
  obtain ⟨m, N, h⟩ := s.post_frame n answer body
  rw [h] at hcell ⊢
  exact State.mirrorShows_of_cell hs hcell rfl rfl

theorem State.finishTable_mirrorShows {s : State} (hs : s.mirrorShows) (n : Fin 32) (answer : List Byte) :
    (s.finishTable n answer).mirrorShows :=
  State.post_mirrorShows (s := { s with table := { s.table with held := none } }) (State.mirrorShows_of_eq hs rfl rfl) n
    answer none

theorem State.enterService_mirrorShows {s : State} (hs : s.memoryCanonical) (v : ServiceState) :
    (s.enterService v).mirrorShows :=
  State.rewriteMirror_mirrorShows hs

theorem State.setDenyList_mirrorShows {s : State} (hs : s.memoryCanonical) (l : List DenyEntry) :
    (s.setDenyList l).mirrorShows :=
  State.rewriteMirror_mirrorShows hs

theorem State.take_memoryCanonical {s : State} (hs : s.memoryCanonical) (q : QueueId) (n : Fin 32) :
    (s.take q n).memoryCanonical :=
  (State.take_spec hs q n).1

/-! ### Host writes -/

/-- No host write reaches the mirror. -/
theorem State.writeByte_mirror (s : State) (a : Nat) (b : Byte) {x : Nat} (hx : inMirror x) :
    (s.writeByte a b).mem.read x = s.mem.read x := by
  unfold State.writeByte
  split
  next hcell =>
    refine s.writeStateByte_inCell _ b x fun hin => ?_
    have := cellBase_lt (cellOf a)
    have := hin.2
    have := hx.1
    omega
  next =>
    split
    · rfl
    next hmirror =>
      split
      · rfl
      · exact Memory.read_write_of_ne _ _ (by rintro rfl; exact hmirror hx)

theorem State.writeMemoryWord_mirror (s : State) (a : Nat) (data : Word) (lanes : Lanes) {x : Nat} (hx : inMirror x) :
    (s.writeMemoryWord a data lanes).mem.read x = s.mem.read x := by
  have high : (if lanes.high then s.writeByte (a + 1) (highByte data) else s).mem.read x = s.mem.read x := by
    split
    · exact s.writeByte_mirror _ _ hx
    · rfl
  unfold State.writeMemoryWord
  dsimp only
  split
  · exact (State.writeByte_mirror _ _ _ hx).trans high
  · exact high

theorem State.writeMemoryWord_mirrorShows {s : State} (hs : s.mirrorShows) (a : Nat) (data : Word) (lanes : Lanes) :
    (s.writeMemoryWord a data lanes).mirrorShows := by
  have hmirror (x : Nat) (h₁ : Config.mirrorBase ≤ x) (h₂ : x < Config.scratchBase) :=
    s.writeMemoryWord_mirror a data lanes ⟨h₁, h₂⟩
  have hcontext (hopen : s.table.service.isOpen = true) (x : Nat) (h₁ : 0x1000 ≤ x) (h₂ : x < 0x1005) :
      (s.writeMemoryWord a data lanes).mem.read x = s.mem.read x := by
    refine s.writeMemoryWord_read a data lanes (by simp only [Config.scratchBase]; omega) (.inl ?_)
    refine State.guarded_context (fun h => ?_) h₁ (by omega)
    rw [h] at hopen
    cases hopen
  obtain ⟨m, q, F, N, h⟩ := s.writeMemoryWord_frame a data lanes
  rw [h] at hmirror hcontext ⊢
  exact State.mirrorShows_of_same hs hmirror (State.mirrorImage_congr rfl hcontext rfl)

/-! ### The operations -/

theorem State.engineReset_mirrorShows {s : State} (hs : s.memoryCanonical) : s.engineReset.mirrorShows := by
  have hm := (s.abortTaken_keeps.2 hs).1
  unfold State.engineReset
  generalize s.abortTaken = u at hm ⊢
  exact State.rewriteMirror_mirrorShows (s := u.rebuildQueues.resetBlocks) hm

theorem State.access_mirrorShows {s : State} (hm : s.memoryCanonical) (hs : s.mirrorShows) (a : Nat) (data : Word)
    (lanes : Lanes) : (s.access a data lanes).mirrorShows := by
  rcases s.access_cases a data lanes with ⟨-, h⟩ | ⟨-, h⟩ | ⟨-, h⟩ | ⟨-, h⟩ | ⟨-, -, -, -, h⟩ <;> rw [h]
  · exact State.writeMemoryWord_mirrorShows hs a data lanes
  · cases hw : resetWrite data lanes with
    | true =>
      rw [State.writeEngControl_of_resetWrite _ hw]
      exact State.engineReset_mirrorShows (s := { s with notice := s.notice.control data }) hm
    | false =>
      rw [State.writeEngControl_of_not_resetWrite _ hw]
      exact State.mirrorShows_of_eq hs rfl rfl
  · unfold State.clearEvents
    split
    next => exact State.rewriteMirror_mirrorShows hm
    next hbit =>
      refine State.mirrorShows_of_eq hs rfl ?_
      rw [State.writeEventFlags, if_neg hbit]
      rfl
  · exact State.mirrorShows_of_eq hs rfl rfl
  · exact hs

theorem State.clockEdge_mirrorShows {s : State} (hm : s.memoryCanonical) (hs : s.mirrorShows) :
    s.clockEdge.mirrorShows := by
  have cascade (u : State) (hu : u.memoryCanonical) :
      (if u.clock.second < 59 then { u with clock := { u.clock with second := u.clock.second + 1 } }
        else ({ u with clock := { u.clock with second := 0 } } : State).advanceMinute).memoryCanonical := by
    split
    · exact hu
    · unfold State.advanceMinute
      split
      · exact hu
      · unfold State.advanceDay
        split
        · exact hu
        · exact hu
  unfold State.clockEdge
  split
  · exact State.mirrorShows_of_eq hs rfl rfl
  · exact State.rewriteMirror_mirrorShows
      (cascade { s with clock := { s.clock.driven with subSecond := 0 } } hm)

theorem State.setClock_mirrorShows {s : State} (hm : s.memoryCanonical) (r : ClockRequest) :
    (s.setClock r).mirrorShows := by
  unfold State.setClock
  dsimp only
  refine State.rewriteMirror_mirrorShows ?_
  split
  · exact hm
  · exact hm

theorem State.completeInspection_mirrorShows {s : State} (hm : s.memoryCanonical) (f : Flight) (v : Verdict) :
    (s.completeInspection f v).mirrorShows := by
  unfold State.completeInspection
  dsimp only
  refine State.rewriteMirror_mirrorShows (State.post_memoryCanonical ?_ _ _ _)
  unfold State.fillCapture
  split
  · exact hm
  · exact hm

theorem State.finishBatch_mirrorShows {s : State} (hs : s.mirrorShows) (n : Fin 32) (r : Byte × Byte)
    (applied stopping : Nat) : (s.finishBatch n r applied stopping).mirrorShows :=
  State.finishTable_mirrorShows hs _ _

theorem State.afterEdit_mirrorShows {s : State} (hs : s.mirrorShows) (applied : Bool) :
    (s.afterEdit applied).mirrorShows := by
  have hedit : ({ s with deny := { s.deny with edit := none } } : State).mirrorShows :=
    State.mirrorShows_of_eq hs rfl rfl
  rcases s.afterEdit_cases applied with ⟨n, offset, count, i, -, ⟨r, k, j, h⟩ | ⟨e, h⟩⟩ | ⟨-, h⟩ <;> rw [h]
  · exact State.finishBatch_mirrorShows hedit ..
  · exact State.mirrorShows_of_eq hs rfl rfl
  · exact hedit

/-- A completion at the deny list unit leaves its list. -/
theorem State.completeDeny_mirrorShows {s : State} (hs : s.mirrorShows) : s.completeDeny.mirrorShows := by
  refine State.mirrorShows_of_eq hs rfl ?_
  unfold State.mirrorImage
  rw [State.completeDeny_deny, DenyUnit.complete_list]
  rfl

theorem State.applyAdd_mirrorShows {s : State} (hm : s.memoryCanonical) (hs : s.mirrorShows) (media reason expiry : Nat) :
    (s.applyAdd media reason expiry).mirrorShows := by
  unfold State.applyAdd
  split
  · exact State.completeDeny_mirrorShows (State.afterEdit_mirrorShows (s := s.raise .denyFull)
      (State.mirrorShows_of_eq hs rfl rfl) _)
  · exact State.completeDeny_mirrorShows (State.afterEdit_mirrorShows (State.setDenyList_mirrorShows hm _) _)

theorem State.serveProbe_mirrorShows {s : State} (hs : s.mirrorShows) (media : Nat) :
    (s.serveProbe media).mirrorShows := by
  have hlookup : ({ s with deny := { s.deny with probeLookup := none } } : State).mirrorShows :=
    State.mirrorShows_of_eq hs rfl rfl
  unfold State.serveProbe
  dsimp only
  split
  · exact State.completeDeny_mirrorShows (State.finishTable_mirrorShows hlookup _ _)
  · exact State.completeDeny_mirrorShows hlookup

theorem State.serveEngineLookup_mirrorShows {s : State} (hs : s.mirrorShows) (media day : Nat) :
    (s.serveEngineLookup media day).mirrorShows := by
  have hlength : (s.serveEngineLookup media day).rounds.length = s.rounds.length := by
    rcases s.serveEngineLookup_rounds media day with h | ⟨id, h⟩ <;> rw [h]
    exact raisePresented_length _ _
  obtain ⟨f, l, run, h⟩ := s.serveEngineLookup_frame media day
  rw [h] at hlength ⊢
  refine State.mirrorShows_of_eq hs rfl ?_
  unfold State.mirrorImage
  dsimp only at hlength ⊢
  rw [hlength, DenyUnit.complete_list]
  rfl

theorem State.tableResult_mirrorShows {s : State} (hm : s.memoryCanonical) (hs : s.mirrorShows) (residue : Word) :
    (s.tableResult residue).mirrorShows := by
  rcases s.tableResult_cases residue with ⟨n, table, entry, -, h⟩ | ⟨n, offset, count, i, -, h⟩ | ⟨-, -, h⟩ <;> rw [h]
  · rcases s.openResidue_cases n table residue with ⟨a, b, d, h⟩ | ⟨-, h⟩ | ⟨-, h⟩ <;> rw [h]
    · exact State.finishTable_mirrorShows (State.enterService_mirrorShows hm _) _ _
    · exact State.mirrorShows_of_eq hs rfl rfl
    · exact State.mirrorShows_of_eq hs rfl rfl
  · rcases s.batchResidue_cases n offset count residue with ⟨a, b, d, h⟩ | ⟨e, h⟩ <;> rw [h]
    · exact State.finishBatch_mirrorShows hs ..
    · exact State.mirrorShows_of_eq hs rfl rfl
  · exact hs

theorem State.endJob_mirrorShows {s : State} (hm : s.memoryCanonical) (hs : s.mirrorShows) : s.endJob.mirrorShows := by
  have freed (run : Option (List Byte)) (j : Option TableJob) : (s.checkFreed run j).mirrorShows :=
    State.mirrorShows_of_eq hs rfl rfl
  rcases s.endJob_cases with ⟨r, run, -, -, h⟩ | ⟨r, j, -, -, h⟩ | h <;> rw [h]
  · rw [State.engineResult_spec]
    exact State.mirrorShows_of_eq hs rfl rfl
  · exact State.tableResult_mirrorShows (s := s.checkFreed s.check.engineJob none) hm (freed _ _) _
  · exact hs

theorem State.refuseJourney_mirrorShows {s : State} (hs : s.mirrorShows) (n : Fin 32) (r : Reply) :
    (s.refuseJourney n r).mirrorShows := by
  unfold State.refuseJourney State.answerJourney
  exact State.post_mirrorShows (State.take_mirrorShows hs _ _) _ _ _

theorem State.serveDepart_mirrorShows {s : State} (hm : s.memoryCanonical) (hs : s.mirrorShows) (n : Fin 32) :
    (s.serveDepart n).mirrorShows := by
  unfold State.serveDepart
  split
  · exact State.refuseJourney_mirrorShows hs n _
  · dsimp only
    split
    · exact State.post_mirrorShows (State.take_mirrorShows hs _ _) _ _ _
    · refine State.post_mirrorShows (State.rewriteMirror_mirrorShows ?_) _ _ _
      exact State.take_memoryCanonical hm .journey n

theorem State.arriveAt_mirrorShows {s : State} (hm : s.memoryCanonical) (target : Nat) : (s.arriveAt target).mirrorShows := by
  unfold State.arriveAt
  dsimp only
  refine State.rewriteMirror_mirrorShows ?_
  rw [State.boundaries_spec]
  by_cases h : target = s.mem.header.terminus
  · simp only [State.raise_mem, if_pos h]
    exact hm
  · simp only [State.raise_mem, if_neg h]
    exact hm

theorem State.serveArrive_mirrorShows {s : State} (hm : s.memoryCanonical) (hs : s.mirrorShows) (n : Fin 32) :
    (s.serveArrive n).mirrorShows := by
  rcases hr : (stateRefusal s.table.service).or (s.arriveFault n) with _ | r
  · rw [State.serveArrive_of_accepted hr]
    exact State.post_mirrorShows (State.arriveAt_mirrorShows (State.take_memoryCanonical hm .journey n) _) _ _ _
  · rw [State.serveArrive_of_refused hr]
    exact State.refuseJourney_mirrorShows hs n r

theorem State.servePass_mirrorShows {s : State} (hm : s.memoryCanonical) (hs : s.mirrorShows) (n : Fin 32) :
    (s.servePass n).mirrorShows := by
  rcases hr : (stateRefusal s.table.service).or s.passFault with _ | r
  · rw [State.servePass_of_accepted hr]
    refine State.post_mirrorShows (State.rewriteMirror_mirrorShows ?_) _ _ _
    rw [State.boundaries_spec]
    exact State.take_memoryCanonical hm .journey n
  · rw [State.servePass_of_refused hr]
    exact State.refuseJourney_mirrorShows hs n r

theorem State.setPosition_mirrorShows {s : State} (hm : s.memoryCanonical) (stop : Nat) (kind : PosKind) :
    (s.setPosition stop kind).mirrorShows := by
  unfold State.setPosition
  dsimp only
  refine State.rewriteMirror_mirrorShows ?_
  split
  · exact hm
  · exact hm

theorem State.serveSet_mirrorShows {s : State} (hm : s.memoryCanonical) (hs : s.mirrorShows) (n : Fin 32) :
    (s.serveSet n).mirrorShows := by
  rcases s.serveSet_cases n with ⟨r, hr⟩ | ⟨stop, kind, -, -, hr⟩ <;> rw [hr]
  · exact State.refuseJourney_mirrorShows hs n r
  · exact State.post_mirrorShows (State.setPosition_mirrorShows (State.take_memoryCanonical hm .journey n) _ _) _ _ _

theorem State.serveClockSet_mirrorShows {s : State} (hm : s.memoryCanonical) (hs : s.mirrorShows) (n : Fin 32) :
    (s.serveClockSet n).mirrorShows := by
  unfold State.serveClockSet
  dsimp only
  split
  · exact State.post_mirrorShows (State.take_mirrorShows hs _ _) _ _ _
  · exact State.post_mirrorShows (State.setClock_mirrorShows (State.take_memoryCanonical hm .journey n) _) _ _ _

theorem State.checkTable_mirrorShows {s : State} (hs : s.mirrorShows) (n : Fin 32) (table : Nat) :
    (s.checkTable n table).mirrorShows :=
  State.mirrorShows_of_eq hs rfl rfl

theorem State.takeOpen_mirrorShows {s : State} (hm : s.memoryCanonical) (hs : s.mirrorShows) (n : Fin 32) :
    (s.takeOpen n).mirrorShows := by
  have refused (detail : Byte) : (s.refuseOpen n detail).mirrorShows :=
    State.finishTable_mirrorShows (State.take_mirrorShows hs _ _) _ _
  unfold State.takeOpen
  split
  · exact refused _
  · split
    · exact refused _
    · exact State.checkTable_mirrorShows
        (State.enterService_mirrorShows (State.take_memoryCanonical hm .table n) .checking) n 1

theorem State.completeOpen_mirrorShows {s : State} (hm : s.memoryCanonical) (n : Fin 32) :
    (s.completeOpen n).mirrorShows := by
  unfold State.completeOpen
  dsimp only
  refine State.finishTable_mirrorShows (State.enterService_mirrorShows ?_ _) _ _
  exact hm

theorem State.completeClose_mirrorShows {s : State} (hm : s.memoryCanonical) (n : Fin 32) :
    (s.completeClose n).mirrorShows := by
  unfold State.completeClose
  refine State.finishTable_mirrorShows (State.enterService_mirrorShows ?_ _) _ _
  exact hm

theorem State.takeClose_mirrorShows {s : State} (hm : s.memoryCanonical) (hs : s.mirrorShows) (n : Fin 32) :
    (s.takeClose n).mirrorShows := by
  rcases s.takeClose_cases n with ⟨answer, h⟩ | ⟨-, ⟨-, h⟩ | h⟩ <;> rw [h]
  · exact State.finishTable_mirrorShows (State.take_mirrorShows hs _ _) _ _
  · exact State.completeClose_mirrorShows (State.take_memoryCanonical hm _ _) n
  · exact State.mirrorShows_of_eq (State.take_mirrorShows hs .table n) rfl rfl

theorem State.takeBatch_mirrorShows {s : State} (hs : s.mirrorShows) (n : Fin 32) : (s.takeBatch n).mirrorShows := by
  unfold State.takeBatch
  dsimp only
  split
  · exact State.finishBatch_mirrorShows (State.take_mirrorShows hs _ _) ..
  · exact State.mirrorShows_of_eq (State.take_mirrorShows hs .table n) rfl rfl

/-! ### Every command -/

theorem State.advanceDeny_mirrorShows {s : State} (hs : s.mirrorShows) : s.advanceDeny.mirrorShows := by
  refine State.mirrorShows_of_eq hs rfl ?_
  unfold State.mirrorImage
  rw [State.advanceDeny_deny, DenyUnit.advance_list]
  rfl

theorem State.event_mirrorShows {s : State} (hs : s.mirrorShows) : s.driveNote.settled.mirrorShows :=
  State.advanceDeny_mirrorShows (s := s.driveNote.chooseCheck) hs

theorem State.asking_mirrorShows {s : State} (hs : s.mirrorShows) : s.advanceDeny.driveNote.mirrorShows :=
  State.advanceDeny_mirrorShows hs

theorem State.edited_mirrorShows {s : State} (hs : s.mirrorShows) : s.chooseCheck.beginLookup.driveNote.mirrorShows :=
  hs

theorem Run.keepsMirror {s t : State} {c : Instr} (h : Run s c t) (hm : s.memoryCanonical) (hs : s.mirrorShows) :
    t.mirrorShows := by
  cases h with
  | absent => exact hs
  | powerOn =>
    exact State.event_mirrorShows (s := s.powerOn)
      (State.mirrorShows_of_eq (s := State.reset) (show State.reset.mirrorShows by decide) rfl rfl)
  | access => exact State.event_mirrorShows (State.access_mirrorShows hm hs _ _ _)
  | ignored => exact State.advanceDeny_mirrorShows (s := s.chooseCheck) hs
  | mirrorRead lanes =>
    refine State.advanceDeny_mirrorShows (s := (s.readMirrorWord0 lanes).chooseCheck) (State.mirrorShows_of_eq hs rfl ?_)
    show (s.readMirrorWord0 lanes).mirrorImage = _
    unfold State.readMirrorWord0
    dsimp only
    split <;> rfl
  | clockEdge => exact State.event_mirrorShows (State.clockEdge_mirrorShows hm hs)
  | loseClock =>
    exact State.event_mirrorShows (s := s.loseClock) (State.rewriteMirror_mirrorShows (s := State.raise _ _) hm)
  | @inspect n =>
    refine State.event_mirrorShows ?_
    obtain ⟨f, -, -, -, -, h⟩ := (s.take .inspection n).beginInspection_spec n
    rw [h]
    exact State.mirrorShows_of_eq (State.take_mirrorShows hs .inspection n) rfl rfl
  | inspectCompletion => exact State.event_mirrorShows (State.completeInspection_mirrorShows hm _ _)
  | checkJobEnd => exact State.asking_mirrorShows (State.endJob_mirrorShows (s := s.chooseCheck) hm hs)
  | checkPieceEnd =>
    obtain ⟨u, h⟩ := s.chooseCheck.endPiece_frame
    rw [h]
    exact State.event_mirrorShows (State.mirrorShows_of_eq hs rfl rfl)
  | engineLookup => exact State.event_mirrorShows (State.serveEngineLookup_mirrorShows hs _ _)
  | probeLookup => exact State.event_mirrorShows (State.serveProbe_mirrorShows hs _)
  | add => exact State.edited_mirrorShows (State.applyAdd_mirrorShows hm hs _ _ _)
  | delete =>
    exact State.edited_mirrorShows
      (State.completeDeny_mirrorShows (State.afterEdit_mirrorShows (State.setDenyList_mirrorShows hm _) _))
  | clear =>
    exact State.edited_mirrorShows
      (State.completeDeny_mirrorShows (State.afterEdit_mirrorShows (State.setDenyList_mirrorShows hm _) _))
  | sweepStep =>
    exact State.event_mirrorShows (State.completeDeny_mirrorShows
      (State.rewriteMirror_mirrorShows (s := { s with deny := s.deny.sweepOnce }) hm))
  | depart => exact State.event_mirrorShows (State.serveDepart_mirrorShows hm hs _)
  | arrive => exact State.event_mirrorShows (State.serveArrive_mirrorShows hm hs _)
  | pass => exact State.event_mirrorShows (State.servePass_mirrorShows hm hs _)
  | set => exact State.event_mirrorShows (State.serveSet_mirrorShows hm hs _)
  | badEvent => exact State.event_mirrorShows (State.refuseJourney_mirrorShows hs _ _)
  | clockSet => exact State.event_mirrorShows (State.serveClockSet_mirrorShows hm hs _)
  | serviceOpen => exact State.asking_mirrorShows (State.takeOpen_mirrorShows (s := s.chooseCheck) hm hs _)
  | serviceOpenCompletion => exact State.event_mirrorShows (State.completeOpen_mirrorShows hm _)
  | serviceClose => exact State.event_mirrorShows (State.takeClose_mirrorShows hm hs _)
  | serviceCloseCompletion => exact State.event_mirrorShows (State.completeClose_mirrorShows hm _)
  | denyBatch => exact State.asking_mirrorShows (State.takeBatch_mirrorShows (s := s.chooseCheck) hs _)
  | @denyProbe n =>
    exact State.event_mirrorShows (State.mirrorShows_of_eq (State.take_mirrorShows hs .table n) rfl rfl)

/-! ### Field by field -/

theorem State.read_mirror {s : State} (hs : s.mirrorShows) {i : Nat} (hi : i < 64) :
    s.mem.read (0x0800 + i) = s.mirrorImage.getD i 0#8 := by
  rw [← hs]
  exact (Memory.readList_getD s.mem hi).symm

theorem byteOf_toNat (n : Nat) : (byteOf n).toNat = n % 256 := BitVec.toNat_ofNat n 8

/-- The two bytes of a 16-bit field, as the number they carry (R198). -/
theorem le16_toNat (n : Nat) : (byteOf n).toNat + 256 * (byteOf (n / 256)).toNat = n % 65536 := by
  rw [byteOf_toNat, byteOf_toNat]
  omega

theorem ServiceState.code_lt (v : ServiceState) : v.code < 256 := by cases v <;> decide

theorem PosKind.code_lt (k : PosKind) : k.code < 256 := by cases k <;> decide

theorem flagByte_toNat (b : Bool) : (flagByte b).toNat = b.toNat := by cases b <;> rfl

/-- The mirror's bytes that stand before the capture, each at its offset (Table 12-12). -/
theorem State.mirrorImage_fields (s : State) {a b c d : Byte} (h : s.mirrorService = [a, b, c, d]) :
    s.mirrorImage = [byteOf s.table.service.code, byteOf s.journey.kind.code, a, b, c, d,
      byteOf s.journey.shownStop, 0#8, byteOf s.journey.round, byteOf (s.journey.round / 256),
      byteOf s.clock.day, byteOf (s.clock.day / 256), byteOf s.clock.minute, byteOf (s.clock.minute / 256),
      byteOf s.clock.second, flagByte s.clock.valid, byteOf s.journey.serviceDay, byteOf (s.journey.serviceDay / 256),
      byteOf s.engine.counter, 0#8, byteOf s.rounds.length, byteOf (s.rounds.length / 256),
      byteOf s.deny.list.length, byteOf (s.deny.list.length / 256)] ++
        (captureBytes s.journey.capture ++ List.replicate 24 0#8) := by
  unfold State.mirrorImage
  rw [h, List.append_assoc]
  rfl

/-- A byte of the mirror after the capture's. -/
theorem State.read_mirror_capture {s : State} (hs : s.mirrorShows) {i : Nat} (hi : i < 40) :
    s.mem.read (0x0818 + i) = (captureBytes s.journey.capture ++ List.replicate 24 0#8).getD i 0#8 := by
  obtain ⟨a, b, c, d, h⟩ : ∃ a b c d, s.mirrorService = [a, b, c, d] := by
    unfold State.mirrorService
    split
    · exact ⟨_, _, _, _, rfl⟩
    · exact ⟨_, _, _, _, rfl⟩
  rw [show 0x0818 + i = 0x0800 + (24 + i) by omega, State.read_mirror hs (by omega), s.mirrorImage_fields h,
    List.getD_append_right _ _ _ _ (by simp)]
  simp

/-- The bytes of the capture's record (R135). -/
theorem State.read_mirror_record {s : State} (hs : s.mirrorShows) {r : CaptureRecord} (hr : s.journey.capture = some r)
    {i : Nat} (hi : i < 16) : s.mem.read (0x0818 + i) = (captureBytes (some r)).getD i 0#8 := by
  rw [State.read_mirror_capture hs (by omega), hr, List.getD_append _ _ _ _ (by simpa using hi)]

/-- Settles O52, by `Run.keepsMirror` and `State.mirrorImage_fields`. -/
theorem stepKeepsMirror : Obligations.StepKeepsMirror := by
  refine ⟨fun s t hm hs h => ?_, fun s b w hs hb hw => ?_, rfl, rfl, rfl⟩
  · exact step_induction (p := fun s t => s.memoryCanonical → s.mirrorShows → t.mirrorShows) (fun _ _ => id)
      (fun _ _ _ _ hr hm hs => hr.keepsMirror hm hs) h hm hs
  obtain ⟨x₀, x₁, x₂, x₃, hx⟩ : ∃ a b c d, s.mirrorService = [a, b, c, d] := by
    unfold State.mirrorService
    split
    · exact ⟨_, _, _, _, rfl⟩
    · exact ⟨_, _, _, _, rfl⟩
  have byte (i : Nat) (hi : i < 64) : b (0x0800 + i) = (s.mirrorImage.getD i 0#8).toNat := by
    rw [hb, State.read_mirror hs hi]
  rw [s.mirrorImage_fields hx] at byte
  have word (a n : Nat) (h₀ : b a = (byteOf n).toNat) (h₁ : b (a + 1) = (byteOf (n / 256)).toNat) : w a = n % 65536 := by
    rw [hw, h₀, h₁, le16_toNat]
  have record (r : CaptureRecord) (hr : s.journey.capture = some r) (i : Nat) (hi : i < 16) :
      b (0x0818 + i) = ((captureBytes (some r)).getD i 0#8).toNat := by
    rw [hb, State.read_mirror_record hs hr hi]
  refine ⟨?_, ?_, fun hopen => ?_, fun hopen => ?_, ?_, ?_, ?_, ?_, ?_, ?_, ?_, ?_, ?_, ?_, fun hc a h₁ h₂ => ?_,
    fun r hr => ?_, ?_, ?_, ?_, fun a h₁ h₂ => ?_⟩
  · exact (byte 0 (by omega)).trans ((byteOf_toNat _).trans (Nat.mod_eq_of_lt s.table.service.code_lt))
  · exact (byte 1 (by omega)).trans ((byteOf_toNat _).trans (Nat.mod_eq_of_lt s.journey.kind.code_lt))
  · rw [State.mirrorService, if_pos hopen] at hx
    obtain ⟨rfl, rfl, rfl, rfl, -⟩ := by simpa only [List.cons.injEq] using hx
    rw [hw, hw, hb 0x1000, hb 0x1001, hb 0x1002, hb 0x1004]
    exact ⟨congrArg₂ (fun x y => x + 256 * y) (byte 2 (by omega)) (byte 3 (by omega)), byte 4 (by omega), byte 5 (by omega)⟩
  · rw [State.mirrorService, if_neg (by simp [hopen])] at hx
    obtain ⟨rfl, rfl, rfl, rfl, -⟩ := by simpa only [List.cons.injEq] using hx
    rw [hw]
    exact ⟨congrArg₂ (fun x y => x + 256 * y) (byte 2 (by omega)) (byte 3 (by omega)), byte 4 (by omega), byte 5 (by omega)⟩
  · exact (byte 6 (by omega)).trans (byteOf_toNat _)
  · exact word 0x0808 _ (byte 8 (by omega)) (byte 9 (by omega))
  · exact word 0x080A _ (byte 10 (by omega)) (byte 11 (by omega))
  · exact word 0x080C _ (byte 12 (by omega)) (byte 13 (by omega))
  · exact (byte 14 (by omega)).trans (byteOf_toNat _)
  · exact (byte 15 (by omega)).trans (flagByte_toNat _)
  · exact word 0x0810 _ (byte 16 (by omega)) (byte 17 (by omega))
  · exact (byte 18 (by omega)).trans (byteOf_toNat _)
  · exact word 0x0814 _ (byte 20 (by omega)) (byte 21 (by omega))
  · exact word 0x0816 _ (byte 22 (by omega)) (byte 23 (by omega))
  · obtain ⟨i, rfl⟩ := Nat.exists_eq_add_of_le h₁
    rw [hb, State.read_mirror_capture hs (by omega), hc, captureBytes, ← List.replicate_add, List.getD_replicate _ (by omega)]
    rfl
  · have hcell : r.cell.val % 256 = r.cell.val := Nat.mod_eq_of_lt (by omega)
    refine ⟨record r hr 0 (by omega), (record r hr 1 (by omega)).trans ((byteOf_toNat _).trans (Nat.mod_eq_of_lt r.kind.code_lt)),
      word 0x081A _ (record r hr 2 (by omega)) (record r hr 3 (by omega)), (record r hr 4 (by omega)).trans (byteOf_toNat _),
      (record r hr 5 (by omega)).trans ((byteOf_toNat _).trans hcell), State.read_mirror_record hs hr (i := 6) (by omega),
      State.read_mirror_record hs hr (i := 7) (by omega), word 0x0820 _ (record r hr 8 (by omega)) (record r hr 9 (by omega)),
      word 0x0822 _ (record r hr 10 (by omega)) (record r hr 11 (by omega)),
      State.read_mirror_record hs hr (i := 12) (by omega), word 0x0826 _ (record r hr 14 (by omega)) (record r hr 15 (by omega))⟩
  · exact byte 7 (by omega)
  · exact byte 19 (by omega)
  · rw [hb, State.read_mirror_capture hs (i := 13) (by omega)]
    cases s.journey.capture <;> rfl
  · obtain ⟨i, rfl⟩ := Nat.exists_eq_add_of_le h₁
    rw [hb, show 0x0828 + i = 0x0818 + (16 + i) by omega, State.read_mirror_capture hs (by omega),
      List.getD_append_right _ _ _ _ (by simp), captureBytes_length, Nat.add_sub_cancel_left,
      List.getD_replicate _ (by omega)]
    rfl

end Sys2Proof.Machine
end

section
/-!
Every step keeps each operation in hand with the unit that carries it on: a request fills a slot of a shared unit, an end
of the unit's work empties it, and what waits is the work its requester waits for.
-/
namespace Sys2Proof.Machine

/-! ### What waits for whom -/

section Linked

variable {s : State}

theorem State.engineLinked_of_idle (h : s.engine.flight = none) :
    s.engineLinked ↔ s.check.engineJob = none ∧ s.deny.engineLookup = none := by
  simp [State.engineLinked, h]

theorem State.engineLinked_of_judged {f : Flight} {v : Verdict} (h : s.engine.flight = some f) (hf : f.stage = .judged v) :
    s.engineLinked ↔ s.check.engineJob = none ∧ s.deny.engineLookup = none := by
  simp [State.engineLinked, h, hf]

theorem State.engineLinked_of_deny {f : Flight} (h : s.engine.flight = some f) (hf : f.stage = .deny) :
    s.engineLinked ↔ s.check.engineJob = none ∧ s.deny.engineLookup.isSome = true := by
  simp [State.engineLinked, h, hf]

theorem State.engineLinked_of_integrity {f : Flight} (h : s.engine.flight = some f) (hf : f.stage = .integrity) :
    s.engineLinked ↔ s.check.engineJob.isSome = true ∧ s.deny.engineLookup = none := by
  simp [State.engineLinked, h, hf]

theorem State.engineLinked_of_composing {f : Flight} {v : Verdict} (h : s.engine.flight = some f)
    (hf : f.stage = .composing v) :
    s.engineLinked ↔ s.check.engineJob.isSome = true ∧ s.deny.engineLookup = none := by
  simp [State.engineLinked, h, hf]

/-- A job of the verdict engine is the image check or the compose of its inspection. -/
theorem State.flight_of_engineJob (hs : s.engineLinked) (h : s.check.engineJob.isSome = true) :
    ∃ f, s.engine.flight = some f ∧ (f.stage = .integrity ∨ ∃ v, f.stage = .composing v) := by
  cases hf : s.engine.flight with
  | none => simp [((State.engineLinked_of_idle hf).1 hs).1] at h
  | some f =>
    refine ⟨f, rfl, ?_⟩
    cases hstage : f.stage with
    | integrity => exact .inl rfl
    | composing v => exact .inr ⟨v, rfl⟩
    | deny => simp [((State.engineLinked_of_deny hf hstage).1 hs).1] at h
    | judged v => simp [((State.engineLinked_of_judged hf hstage).1 hs).1] at h

/-- A lookup of the verdict engine is its inspection's at stage 4. -/
theorem State.flight_of_engineLookup (hs : s.engineLinked) (h : s.deny.engineLookup.isSome = true) :
    ∃ f, s.engine.flight = some f ∧ f.stage = .deny := by
  cases hf : s.engine.flight with
  | none => simp [((State.engineLinked_of_idle hf).1 hs).2] at h
  | some f =>
    refine ⟨f, rfl, ?_⟩
    cases hstage : f.stage with
    | deny => rfl
    | integrity => simp [((State.engineLinked_of_integrity hf hstage).1 hs).2] at h
    | composing v => simp [((State.engineLinked_of_composing hf hstage).1 hs).2] at h
    | judged v => simp [((State.engineLinked_of_judged hf hstage).1 hs).2] at h

/-- The table unit waits for nothing of another unit. -/
theorem State.tableLinked_of_unasked (h : s.table.held = none ∨ (∃ n, s.table.held = some (n, .serviceClose)) ∨
      ∃ n table entry, s.table.held = some (n, .serviceOpen table entry true)) :
    s.tableLinked ↔ s.check.tableJob = none ∧ s.deny.edit = none ∧ s.deny.probeLookup = none := by
  rcases h with h | ⟨n, h⟩ | ⟨n, table, entry, h⟩ <;> simp [State.tableLinked, h]

theorem State.tableLinked_of_check (h : (∃ n table entry, s.table.held = some (n, .serviceOpen table entry false)) ∨
      ∃ n offset count i, s.table.held = some (n, .denyBatch offset count i false)) :
    s.tableLinked ↔ s.check.tableJob.isSome = true ∧ s.deny.edit = none ∧ s.deny.probeLookup = none := by
  rcases h with ⟨n, table, entry, h⟩ | ⟨n, offset, count, i, h⟩ <;> simp [State.tableLinked, h]

theorem State.tableLinked_of_edit {n : Fin 32} {offset count i : Nat}
    (h : s.table.held = some (n, .denyBatch offset count i true)) :
    s.tableLinked ↔ s.check.tableJob = none ∧ s.deny.edit.isSome = true ∧ s.deny.probeLookup = none := by
  simp [State.tableLinked, h]

theorem State.tableLinked_of_probe {n : Fin 32} (h : s.table.held = some (n, .denyProbe)) :
    s.tableLinked ↔ s.check.tableJob = none ∧ s.deny.edit = none ∧ s.deny.probeLookup.isSome = true := by
  simp [State.tableLinked, h]

/-- A job of the table unit is the check of its open or of its batch. -/
theorem State.held_of_tableJob (hs : s.tableLinked) (h : s.check.tableJob.isSome = true) :
    (∃ n table entry, s.table.held = some (n, .serviceOpen table entry false)) ∨
      ∃ n offset count i, s.table.held = some (n, .denyBatch offset count i false) := by
  have hjob := hs.1
  rw [h] at hjob
  split at hjob
  next hheld => exact .inl ⟨_, _, _, hheld⟩
  next hheld => exact .inr ⟨_, _, _, _, hheld⟩
  all_goals cases hjob

/-- An edit is that of the batch in hand. -/
theorem State.held_of_edit (hs : s.tableLinked) (h : s.deny.edit.isSome = true) :
    ∃ n offset count i, s.table.held = some (n, .denyBatch offset count i true) := by
  have hedit := hs.2.1
  rw [h] at hedit
  split at hedit
  next hheld => exact ⟨_, _, _, _, hheld⟩
  all_goals cases hedit

/-- A lookup of the table unit is that of the probe in hand. -/
theorem State.held_of_probeLookup (hs : s.tableLinked) (h : s.deny.probeLookup.isSome = true) :
    ∃ n, s.table.held = some (n, .denyProbe) := by
  have hprobe := hs.2.2
  rw [h] at hprobe
  split at hprobe
  next hheld => exact ⟨_, hheld⟩
  all_goals cases hprobe

end Linked

theorem State.engineLinked_of_same {s t : State} (hs : s.engineLinked)
    (hflight : t.engine.flight.map Flight.stage = s.engine.flight.map Flight.stage)
    (hjob : t.check.engineJob = s.check.engineJob) (hlookup : t.deny.engineLookup = s.deny.engineLookup) :
    t.engineLinked := by
  rwa [State.engineLinked, hflight, hjob, hlookup]

theorem State.tableLinked_of_same {s t : State} (hs : s.tableLinked) (hheld : t.table.held = s.table.held)
    (hjob : t.check.tableJob.isSome = s.check.tableJob.isSome) (hedit : t.deny.edit = s.deny.edit)
    (hprobe : t.deny.probeLookup = s.deny.probeLookup) : t.tableLinked := by
  rwa [State.tableLinked, hheld, hjob, hedit, hprobe]

/-! ### The deny list unit's service -/

theorem DenyUnit.busy_of_free {u : DenyUnit} (h : u.serving = none) (hd : u.dayWaiting = none) : u.busy := by
  rw [DenyUnit.busy, h]
  exact hd

theorem DenyUnit.busy_choose {u : DenyUnit} (h : u.busy) : u.choose.busy := by
  cases hserving : u.serving with
  | some op => rwa [DenyUnit.choose_of_serving (by rw [hserving]; rfl)]
  | none =>
    rw [DenyUnit.busy, hserving] at h
    obtain ⟨l, _ | w, d, _ | e, _ | p, _ | x, v⟩ := u <;> subst hserving <;> subst h <;>
      simp [DenyUnit.busy, DenyUnit.choose, DenyUnit.next, DenyUnit.waitingLookup]

theorem DenyUnit.busy_advance {u : DenyUnit} (h : u.busy) : u.advance.busy := by
  unfold DenyUnit.advance
  split
  · exact h
  · exact DenyUnit.busy_choose h

theorem DenyUnit.sweepOnce_requests (u : DenyUnit) : u.sweepOnce.engineLookup = u.engineLookup ∧
    u.sweepOnce.probeLookup = u.probeLookup ∧ u.sweepOnce.edit = u.edit := by
  unfold DenyUnit.sweepOnce
  split
  · exact ⟨rfl, rfl, rfl⟩
  · split <;> exact ⟨rfl, rfl, rfl⟩

/-- After an edit the unit is free, or serves a lookup that waited. -/
theorem DenyUnit.busy_beginLookup {u : DenyUnit} (h : u.serving = none) (hd : u.dayWaiting = none) : u.beginLookup.busy := by
  rw [DenyUnit.beginLookup_spec, DenyUnit.busy]
  cases he : u.engineLookup <;> cases hp : u.probeLookup <;> simp [h, hd]

theorem DenyUnit.busy_complete (u : DenyUnit) : u.complete.busy := by
  have h := u.complete_spec
  exact DenyUnit.busy_of_free (by rw [h]) (by rw [h])

theorem DenyUnit.busy_dayChange {u : DenyUnit} (h : u.busy) (day : Nat) : (u.dayChange day).busy := by
  rw [DenyUnit.dayChange_spec]
  cases hserving : u.serving with
  | none =>
    rw [DenyUnit.busy, hserving] at h
    exact DenyUnit.busy_of_free rfl h
  | some op =>
    rw [DenyUnit.busy, hserving] at h
    obtain (_ | _ | _) | _ | _ := op <;> exact h

/-- A request more does not disturb the unit. -/
theorem DenyUnit.busy_of_request {u v : DenyUnit} (h : u.busy) (hserving : v.serving = u.serving)
    (hday : v.dayWaiting = u.dayWaiting) (hsweep : v.sweep = u.sweep)
    (hengine : u.engineLookup.isSome = true → v.engineLookup.isSome = true)
    (hprobe : u.probeLookup.isSome = true → v.probeLookup.isSome = true)
    (hedit : u.edit.isSome = true → v.edit.isSome = true) : v.busy := by
  rw [DenyUnit.busy] at h ⊢
  rw [hserving, hday, hsweep]
  split at h
  · exact h
  · rw [Bool.and_eq_true] at h ⊢
    exact ⟨hengine h.1, hprobe h.2⟩
  · exact hengine h
  · exact hprobe h
  · exact h
  · exact ⟨hedit h.1, h.2⟩

/-! ### The end of an event -/

/-- The work at the end of an event, before the free units begin what waits. -/
def State.workReady (s : State) : Prop :=
  s.engineLinked ∧ s.tableLinked ∧ (s.check.serving = none ∨ s.check.busy) ∧ s.deny.busy

theorem State.workReady_of_workLinked {s : State} (hs : s.workLinked) : s.workReady :=
  ⟨hs.1, hs.2.1, .inr hs.2.2.1, hs.2.2.2⟩

theorem State.workReady_of_same {s t : State} (hs : s.workLinked)
    (hflight : t.engine.flight.map Flight.stage = s.engine.flight.map Flight.stage) (hheld : t.table.held = s.table.held)
    (hcheck : t.check = s.check) (hdeny : t.deny = s.deny) : t.workReady := by
  obtain ⟨h₁, h₂, h₃, h₄⟩ := hs
  exact ⟨State.engineLinked_of_same h₁ hflight (by rw [hcheck]) (by rw [hdeny]),
    State.tableLinked_of_same h₂ hheld (by rw [hcheck]) (by rw [hdeny]) (by rw [hdeny]), .inr (by rwa [hcheck]), by rwa [hdeny]⟩

theorem State.settled_workLinked {s : State} (hs : s.workReady) : s.settled.workLinked := by
  obtain ⟨h₁, h₂, h₃, h₄⟩ := hs
  exact ⟨State.engineLinked_of_same h₁ rfl s.check.choose_engineJob s.deny.advance_engineLookup,
    State.tableLinked_of_same h₂ rfl (by rw [State.settled_check, CheckUnit.choose_tableJob]) s.deny.advance_edit s.deny.advance_probeLookup,
    CheckUnit.choose_busy h₃, DenyUnit.busy_advance h₄⟩

theorem State.event_workLinked {s : State} (hs : s.workReady) : s.driveNote.settled.workLinked :=
  State.settled_workLinked (s := s.driveNote) hs

theorem State.chooseCheck_workLinked {s : State} (hs : s.workLinked) : s.chooseCheck.workLinked := by
  obtain ⟨h₁, h₂, h₃, h₄⟩ := hs
  exact ⟨State.engineLinked_of_same h₁ rfl s.check.choose_engineJob rfl,
    State.tableLinked_of_same h₂ rfl (by rw [State.chooseCheck_check, CheckUnit.choose_tableJob]) rfl rfl, CheckUnit.choose_busy (.inr h₃), h₄⟩

theorem State.idle_workLinked {s : State} (hs : s.workLinked) : s.idle.workLinked := by
  obtain ⟨h₁, h₂, h₃, h₄⟩ := State.chooseCheck_workLinked hs
  exact ⟨State.engineLinked_of_same h₁ rfl rfl rfl, State.tableLinked_of_same h₂ rfl rfl rfl rfl, h₃, DenyUnit.busy_choose h₄⟩

theorem State.asking_workLinked {s : State} (hs : s.workLinked) : s.advanceDeny.driveNote.workLinked := by
  obtain ⟨h₁, h₂, h₃, h₄⟩ := hs
  exact ⟨State.engineLinked_of_same h₁ rfl rfl s.deny.advance_engineLookup,
    State.tableLinked_of_same h₂ rfl rfl s.deny.advance_edit s.deny.advance_probeLookup, h₃, DenyUnit.busy_advance h₄⟩

/-! ### The verdict engine's work -/

/-- The take of an inspection asks for the image check, or gives the verdict (R16 to R20). -/
theorem State.beginInspection_engineLinked {s : State} (n : Fin 32) (hjob : s.check.engineJob = none)
    (hlookup : s.deny.engineLookup = none) : (s.beginInspection n).engineLinked := by
  have judged (f : Flight) (v : Verdict) (d : Byte) : (s.setFlight (f.judge v d)).engineLinked :=
    (State.engineLinked_of_judged rfl (f.judge_stage v d)).2 ⟨hjob, hlookup⟩
  unfold State.beginInspection
  dsimp only
  split
  · exact judged _ _ _
  · split
    · exact judged _ _ _
    · split
      · exact judged _ _ _
      · exact (State.engineLinked_of_integrity rfl rfl).2 ⟨rfl, hlookup⟩

/-- The image check's residue gives a verdict or asks for the lookup (R20 to R22). -/
theorem State.afterImageCheck_engineLinked {s : State} (f : Flight) (residue : Word) (hjob : s.check.engineJob = none)
    (hlookup : s.deny.engineLookup = none) : (s.afterImageCheck f residue).engineLinked := by
  have judged (f : Flight) (v : Verdict) (d : Byte) : (s.setFlight (f.judge v d)).engineLinked :=
    (State.engineLinked_of_judged rfl (f.judge_stage v d)).2 ⟨hjob, hlookup⟩
  unfold State.afterImageCheck
  dsimp only
  split
  · exact judged _ _ _
  · split
    · exact judged _ _ _
    · split
      · exact judged _ _ _
      · exact (State.engineLinked_of_deny rfl rfl).2 ⟨hjob, rfl⟩

/-- The verdict engine takes its result and asks for the lookup or has its verdict (R163). -/
theorem State.engineResult_engineLinked {s : State} {f : Flight} (result : Word) (hflight : s.engine.flight = some f)
    (hstage : f.stage = .integrity ∨ ∃ v, f.stage = .composing v) (hjob : s.check.engineJob = none)
    (hlookup : s.deny.engineLookup = none) : (s.engineResult result).engineLinked := by
  unfold State.engineResult
  rw [hflight]
  dsimp only
  rcases hstage with h | ⟨v, h⟩ <;> rw [h]
  · exact State.afterImageCheck_engineLinked f result hjob hlookup
  · exact (State.engineLinked_of_judged rfl rfl).2 ⟨hjob, hlookup⟩

/-- The lookup's result gives a verdict, with a compose job where an image is composed (R22 to R30). -/
theorem State.afterDenyLookup_engineLinked {s : State} (f : Flight) (hit : Option DenyEntry)
    (hjob : s.check.engineJob = none) (hlookup : s.deny.engineLookup = none) :
    (s.afterDenyLookup f hit).engineLinked := by
  have composed (u : State) (g : Flight) (v : Verdict) (img : List Byte) (hu : u.deny.engineLookup = none) :
      (u.compose g v img).engineLinked := (State.engineLinked_of_composing rfl rfl).2 ⟨rfl, hu⟩
  unfold State.afterDenyLookup
  split
  · exact (State.engineLinked_of_judged rfl (Flight.judge_stage _ _ _)).2 ⟨hjob, hlookup⟩
  unfold State.afterDenyMiss
  dsimp only
  split
  · split
    · exact (State.engineLinked_of_judged rfl (Flight.judge_stage _ _ _)).2 ⟨hjob, hlookup⟩
    · unfold State.repeatFound
      dsimp only
      split
      · exact (State.engineLinked_of_judged rfl rfl).2 ⟨hjob, hlookup⟩
      · exact composed _ _ _ _ hlookup
  · obtain ⟨-, v, -, hv⟩ := f.judgeFresh_spec s.mem (Ticket.ofImage (s.cellBody f.cell))
    unfold State.prepare
    split
    · split
      · exact composed _ _ _ _ hlookup
      · exact (State.engineLinked_of_judged rfl hv).2 ⟨hjob, hlookup⟩
    · exact (State.engineLinked_of_judged rfl hv).2 ⟨hjob, hlookup⟩

/-- A request of the verdict engine, which had none, finds the check unit free or at the table unit's work. -/
theorem CheckUnit.ready_of_engineRequest {u : CheckUnit} (h : u.busy) (hjob : u.engineJob = none) (run : Option (List Byte)) :
    u.serving = none ∨ ({ u with engineJob := run } : CheckUnit).busy := by
  rw [CheckUnit.busy] at h
  cases hserving : u.serving with
  | none => exact .inl rfl
  | some w =>
    rw [hserving] at h
    obtain ⟨_ | _, r⟩ := w
    · rw [Option.map_some, hjob] at h
      cases h
    · exact .inr h

/-- A lookup of the verdict engine served leaves the engine with its verdict or its compose job. -/
theorem State.serveEngineLookup_workReady {s : State} (hs : s.workLinked) {media day : Nat}
    (hlookup : s.deny.engineLookup = some (media, day)) : (s.serveEngineLookup media day).workReady := by
  obtain ⟨hengine, htable, hcheck, hdeny⟩ := hs
  obtain ⟨f, hflight, hstage⟩ := State.flight_of_engineLookup hengine (by rw [hlookup]; rfl)
  obtain ⟨hjob, -⟩ := (State.engineLinked_of_deny hflight hstage).1 hengine
  have hlinked : (s.serveEngineLookup media day).engineLinked := by
    unfold State.serveEngineLookup
    dsimp only
    rw [hflight]
    dsimp only
    rw [if_pos hstage]
    have hafter := State.afterDenyLookup_engineLinked (s := { s with deny := { s.deny with engineLookup := none } }) f
      (denyHit s.deny.list media day) hjob rfl
    refine State.engineLinked_of_same hafter rfl rfl ?_
    rw [State.completeDeny_deny, DenyUnit.complete_spec]
  obtain ⟨g, l, run, h⟩ := s.serveEngineLookup_frame media day
  rw [h] at hlinked ⊢
  refine ⟨hlinked, State.tableLinked_of_same htable rfl rfl ?_ ?_, ?_, DenyUnit.busy_complete _⟩
  · rw [DenyUnit.complete_spec]
  · rw [DenyUnit.complete_spec]
  · exact CheckUnit.ready_of_engineRequest hcheck hjob _

/-! ### The table unit's work -/

/-- What the table unit makes of its residue, and what it then waits for (R109, R110, R150, R151). -/
theorem State.tableResult_tableLinked {s : State} (residue : Word) (hjob : s.check.tableJob = none)
    (hedit : s.deny.edit = none) (hprobe : s.deny.probeLookup = none)
    (hheld : (∃ n table entry, s.table.held = some (n, .serviceOpen table entry false)) ∨
      ∃ n offset count i, s.table.held = some (n, .denyBatch offset count i false)) :
    (s.tableResult residue).tableLinked := by
  have finished (u : State) (n : Fin 32) (answer : List Byte) (hj : u.check.tableJob = none) (he : u.deny.edit = none)
      (hp : u.deny.probeLookup = none) : (u.finishTable n answer).tableLinked := by
    refine (State.tableLinked_of_unasked (.inl rfl)).2 ?_
    rw [State.finishTable_check, State.finishTable_deny]
    exact ⟨hj, he, hp⟩
  rcases s.tableResult_cases residue with ⟨n, table, entry, -, h⟩ | ⟨n, offset, count, i, -, h⟩ | ⟨h₁, h₂, -⟩
  · rw [h]
    rcases s.openResidue_cases n table residue with ⟨a, b, d, h⟩ | ⟨-, h⟩ | ⟨-, h⟩ <;> rw [h]
    · refine finished (s.enterService .noService) n _ ?_ ?_ ?_
      · rwa [State.enterService_check]
      · rwa [State.enterService_deny]
      · rwa [State.enterService_deny]
    · exact (State.tableLinked_of_check (.inl ⟨_, _, _, rfl⟩)).2 ⟨rfl, hedit, hprobe⟩
    · exact (State.tableLinked_of_unasked (.inr (.inr ⟨_, _, _, rfl⟩))).2 ⟨hjob, hedit, hprobe⟩
  · rw [h]
    rcases s.batchResidue_cases n offset count residue with ⟨a, b, d, h⟩ | ⟨e, h⟩ <;> rw [h]
    · exact finished s n _ hjob hedit hprobe
    · exact (State.tableLinked_of_edit rfl).2 ⟨hjob, rfl, hprobe⟩
  · rcases hheld with ⟨n, table, entry, h⟩ | ⟨n, offset, count, i, h⟩
    · exact absurd h (h₁ _ _ _)
    · exact absurd h (h₂ _ _ _ _)

/-- A residue leaves the table unit's slot empty, or a new job in it at its first byte. -/
theorem State.tableResult_tableJob (s : State) (residue : Word) :
    (s.tableResult residue).check.tableJob = s.check.tableJob ∨
      ∃ j, (s.tableResult residue).check.tableJob = some j ∧ j.position = 0 ∧ j.remainder = checkPreset := by
  rcases s.tableResult_cases residue with ⟨n, table, entry, -, h⟩ | ⟨n, offset, count, i, -, h⟩ | ⟨-, -, h⟩ <;> rw [h]
  · rcases s.openResidue_cases n table residue with ⟨a, b, d, h⟩ | ⟨-, h⟩ | ⟨-, h⟩ <;> rw [h]
    · left
      rw [State.failOpen, State.finishTable_check, State.enterService_check]
    · exact .inr ⟨_, rfl, rfl, rfl⟩
    · exact .inl rfl
  · rcases s.batchResidue_cases n offset count residue with ⟨a, b, d, h⟩ | ⟨e, h⟩ <;> rw [h]
    · left
      rw [State.finishBatch, State.finishTable_check]
    · exact .inl rfl
  · exact .inl rfl

/-- A new job of the table unit does not disturb the check unit (R165). -/
theorem CheckUnit.busy_of_request {u : CheckUnit} (h : u.busy) {j : Option TableJob}
    (hj : j = u.tableJob ∨ ∃ k, j = some k ∧ k.position = 0 ∧ k.remainder = checkPreset) :
    ({ u with tableJob := j } : CheckUnit).busy := by
  rcases hj with rfl | ⟨k, rfl, hk⟩
  · exact h
  · rw [CheckUnit.busy] at h ⊢
    dsimp only
    split at h
    · refine ⟨h.1, fun i hi => ?_⟩
      rw [Option.mem_def, Option.some.injEq] at hi
      rwa [← hi]
    · exact h
    · rfl

theorem State.endJob_workLinked {s : State} (hs : s.workLinked) : s.endJob.workLinked := by
  obtain ⟨hengine, htable, hcheck, hdeny⟩ := hs
  rcases s.endJob_cases with ⟨r, run, hserving, hrun, h⟩ | ⟨r, j, hserving, hj, h⟩ | h
  · obtain ⟨f, hflight, hstage⟩ := State.flight_of_engineJob hengine (by rw [hrun]; rfl)
    have hlookup : s.deny.engineLookup = none := by
      rcases hstage with h | ⟨v, h⟩
      · exact ((State.engineLinked_of_integrity hflight h).1 hengine).2
      · exact ((State.engineLinked_of_composing hflight h).1 hengine).2
    have hlinked := State.engineResult_engineLinked (s := s.checkFreed none s.check.tableJob) (checkFrom r run) hflight hstage
      (CheckUnit.choose_engineJob _) hlookup
    have hbusy : (s.checkFreed none s.check.tableJob).check.busy := CheckUnit.choose_busy (.inl rfl)
    have hrequest : s.deny.engineLookup.isSome = true → ∀ l : Option (Nat × Nat), l.isSome = true := by simp [hlookup]
    rw [h]
    rw [State.engineResult_spec] at hlinked ⊢
    refine ⟨hlinked, State.tableLinked_of_same htable rfl ?_ rfl rfl, hbusy, ?_⟩
    · exact congrArg Option.isSome (CheckUnit.choose_tableJob { serving := none, engineJob := none, tableJob := s.check.tableJob })
    · exact DenyUnit.busy_of_request hdeny rfl rfl rfl (fun h => hrequest h _) id id
  · have hheld := State.held_of_tableJob htable (by rw [hj]; rfl)
    obtain ⟨-, hedit, hprobe⟩ := (State.tableLinked_of_check hheld).1 htable
    have hlinked := State.tableResult_tableLinked (s := s.checkFreed s.check.engineJob none) (s.pieceRemainder j r)
      (CheckUnit.choose_tableJob _) hedit hprobe hheld
    have hbusy : (s.checkFreed s.check.engineJob none).check.busy := CheckUnit.choose_busy (.inl rfl)
    rw [h]
    have hjob := State.tableResult_tableJob (s.checkFreed s.check.engineJob none) (s.pieceRemainder j r)
    obtain ⟨m, u, k, e, N, h⟩ := (s.checkFreed s.check.engineJob none).tableResult_frame (s.pieceRemainder j r)
    rw [h] at hlinked hjob ⊢
    refine ⟨State.engineLinked_of_same hengine rfl (CheckUnit.choose_engineJob _) rfl, hlinked, ?_,
      DenyUnit.busy_of_request hdeny rfl rfl rfl id id (by simp [hedit])⟩
    exact CheckUnit.busy_of_request hbusy hjob
  · rw [h]
    exact ⟨hengine, htable, hcheck, hdeny⟩

/-- The end of a piece saves the job and chooses again (R164). -/
theorem State.endPiece_workReady {s : State} (hs : s.workLinked) : s.endPiece.workReady := by
  unfold State.endPiece
  split
  next w j hserving hj =>
    obtain ⟨hengine, htable, -, hdeny⟩ := hs
    refine ⟨State.engineLinked_of_same hengine rfl (CheckUnit.choose_engineJob _) rfl,
      State.tableLinked_of_same htable rfl ?_ rfl rfl, .inr (CheckUnit.choose_busy (.inl rfl)), hdeny⟩
    show (CheckUnit.choose _).tableJob.isSome = _
    rw [CheckUnit.choose_tableJob, hj]
    rfl
  next => exact State.workReady_of_workLinked hs

/-! ### The deny list unit's work -/

theorem State.afterEdit_tableLinked {s : State} (applied : Bool) (hs : s.tableLinked) (hedit : s.deny.edit.isSome = true) :
    (s.afterEdit applied).tableLinked := by
  obtain ⟨n, offset, count, i, hheld⟩ := State.held_of_edit hs hedit
  obtain ⟨hjob, -, hprobe⟩ := (State.tableLinked_of_edit hheld).1 hs
  rcases s.afterEdit_cases applied with ⟨n, offset, count, i, -, ⟨r, k, j, h⟩ | ⟨e, h⟩⟩ | ⟨h, -⟩
  · rw [h]
    refine (State.tableLinked_of_unasked (.inl rfl)).2 ?_
    rw [State.finishBatch, State.finishTable_check, State.finishTable_deny]
    exact ⟨hjob, rfl, hprobe⟩
  · rw [h]
    exact (State.tableLinked_of_edit rfl).2 ⟨hjob, rfl, hprobe⟩
  · exact absurd hheld (h _ _ _ _)

/-- After an edit the deny list unit is free, whatever the batch hands over next. -/
theorem State.edited_workLinked {s u t : State} (hs : s.workLinked) (hedit : s.deny.edit.isSome = true) {applied : Bool}
    (hu : u.engine = s.engine ∧ u.table = s.table ∧ u.check = s.check)
    (hdeny : u.deny.edit = s.deny.edit ∧ u.deny.engineLookup = s.deny.engineLookup ∧ u.deny.probeLookup = s.deny.probeLookup)
    (ht : t = (u.afterEdit applied).completeDeny) : t.chooseCheck.beginLookup.driveNote.workLinked := by
  obtain ⟨hengine, htable, hcheck, -⟩ := hs
  obtain ⟨hu₁, hu₂, hu₃⟩ := hu
  obtain ⟨hd₁, hd₂, hd₃⟩ := hdeny
  have hlinked : (u.afterEdit applied).tableLinked :=
    State.afterEdit_tableLinked applied (State.tableLinked_of_same htable (by rw [hu₂]) (by rw [hu₃]) hd₁ hd₃) (by rwa [hd₁])
  obtain ⟨m, h, e, N, heq⟩ := u.afterEdit_frame applied
  rw [heq] at hlinked ht
  subst ht
  refine ⟨State.engineLinked_of_same hengine (by rw [← hu₁]; rfl) ?_ ?_, State.tableLinked_of_same hlinked rfl ?_ ?_ ?_, ?_, ?_⟩
  · rw [← hu₃]
    exact u.check.choose_engineJob
  · rw [← hd₂]
    show (DenyUnit.complete _).engineLookup = _
    rw [DenyUnit.complete_spec]
  · exact congrArg Option.isSome u.check.choose_tableJob
  · show (DenyUnit.complete _).edit = _
    rw [DenyUnit.complete_spec]
  · show (DenyUnit.complete _).probeLookup = _
    rw [DenyUnit.complete_spec]
  · exact CheckUnit.choose_busy (.inr (by rw [← hu₃] at hcheck; exact hcheck))
  · refine DenyUnit.busy_beginLookup (u := DenyUnit.complete _) ?_ ?_ <;> rw [DenyUnit.complete_spec]

theorem State.edit_of_servedEdit {s : State} {e : Edit} (h : s.servedEdit = some e) : s.deny.edit = some e := by
  unfold State.servedEdit at h
  split at h
  · exact h
  · cases h

theorem State.listed_workLinked {s : State} (hs : s.workLinked) (hedit : s.deny.edit.isSome = true) (l : List DenyEntry) :
    (((s.setDenyList l).afterEdit true).completeDeny).chooseCheck.beginLookup.driveNote.workLinked :=
  State.edited_workLinked (u := s.setDenyList l) hs hedit
    ⟨State.setDenyList_engine s l, State.setDenyList_table s l, State.setDenyList_check s l⟩
    ⟨by rw [State.setDenyList_deny], by rw [State.setDenyList_deny], by rw [State.setDenyList_deny]⟩ rfl

theorem State.applyAdd_workLinked {s : State} (hs : s.workLinked) (hedit : s.deny.edit.isSome = true)
    (media reason expiry : Nat) : (s.applyAdd media reason expiry).chooseCheck.beginLookup.driveNote.workLinked := by
  unfold State.applyAdd
  split
  · exact State.edited_workLinked (u := s.raise .denyFull) hs hedit ⟨rfl, rfl, rfl⟩ ⟨rfl, rfl, rfl⟩ rfl
  · exact State.listed_workLinked hs hedit _

theorem State.serveProbe_workReady {s : State} (hs : s.workLinked) {media : Nat}
    (hlookup : s.deny.probeLookup = some media) : (s.serveProbe media).workReady := by
  obtain ⟨hengine, htable, hcheck, -⟩ := hs
  obtain ⟨n, hheld⟩ := State.held_of_probeLookup htable (by rw [hlookup]; rfl)
  obtain ⟨hjob, hedit, -⟩ := (State.tableLinked_of_probe hheld).1 htable
  have hfree : (s.serveProbe media).table.held = none := by
    unfold State.serveProbe
    dsimp only
    rw [hheld]
    rfl
  obtain ⟨m, h, N, heq⟩ := s.serveProbe_frame media
  rw [heq] at hfree ⊢
  refine ⟨State.engineLinked_of_same hengine rfl rfl ?_, (State.tableLinked_of_unasked (.inl hfree)).2 ⟨hjob, ?_, ?_⟩, .inr hcheck,
    DenyUnit.busy_complete _⟩ <;> rw [DenyUnit.complete_spec]
  exact hedit

/-! ### The takes -/

/-- What the take of an open leaves for the check unit (R149, R150). -/
theorem State.takeOpen_asks (s : State) (n : Fin 32) :
    (s.takeOpen n).table.held = none ∧ (s.takeOpen n).check.tableJob = s.check.tableJob ∨
      ∃ j, (s.takeOpen n).table.held = some (n, .serviceOpen 1 Config.absent false) ∧
        (s.takeOpen n).check.tableJob = some j ∧ j.position = 0 ∧ j.remainder = checkPreset := by
  have refused (detail : Byte) : (s.refuseOpen n detail).table.held = none ∧
      (s.refuseOpen n detail).check.tableJob = s.check.tableJob := by
    unfold State.refuseOpen
    rw [State.finishTable_check, State.take_check]
    exact ⟨rfl, rfl⟩
  unfold State.takeOpen
  split
  · exact .inl (refused _)
  · split
    · exact .inl (refused _)
    · exact .inr ⟨_, rfl, rfl, rfl, rfl⟩

/-- What the take of a batch leaves for the check unit (R107, R109). -/
theorem State.takeBatch_asks (s : State) (n : Fin 32) :
    (s.takeBatch n).table.held = none ∧ (s.takeBatch n).check.tableJob = s.check.tableJob ∨
      ∃ offset count j, (s.takeBatch n).table.held = some (n, .denyBatch offset count 0 false) ∧
        (s.takeBatch n).check.tableJob = some j ∧ j.position = 0 ∧ j.remainder = checkPreset := by
  unfold State.takeBatch
  dsimp only
  split
  · left
    unfold State.finishBatch
    rw [State.finishTable_check, State.take_check]
    exact ⟨rfl, rfl⟩
  · exact .inr ⟨_, _, _, rfl, rfl, rfl, rfl⟩

/-- The table unit's request to the check unit, or none. -/
theorem State.asked_workLinked {s : State} (hs : s.workLinked) (hfree : s.table.held = none) {m : Memory} {i : Intake}
    {u : TableUnit} {j : Option TableJob} {N : NoticeUnit}
    (hasks : u.held = none ∧ j = s.check.tableJob ∨ ∃ k, j = some k ∧ k.position = 0 ∧ k.remainder = checkPreset ∧
      ((∃ n table entry, u.held = some (n, .serviceOpen table entry false)) ∨
        ∃ n offset count i, u.held = some (n, .denyBatch offset count i false))) :
    ({ s with mem := m, intake := i, table := u, check := { s.check with tableJob := j }, notice := N } : State).workLinked := by
  obtain ⟨hengine, htable, hcheck, hdeny⟩ := hs
  obtain ⟨hjob, hedit, hprobe⟩ := (State.tableLinked_of_unasked (.inl hfree)).1 htable
  refine ⟨State.engineLinked_of_same hengine rfl rfl rfl, ?_, CheckUnit.busy_of_request hcheck ?_, hdeny⟩
  · rcases hasks with ⟨hu, hj⟩ | ⟨k, hj, -, -, hu⟩
    · exact (State.tableLinked_of_unasked (.inl hu)).2 ⟨hj.trans hjob, hedit, hprobe⟩
    · exact (State.tableLinked_of_check hu).2 ⟨congrArg Option.isSome hj, hedit, hprobe⟩
  · exact hasks.imp And.right fun ⟨k, hj, hk₁, hk₂, _⟩ => ⟨k, hj, hk₁, hk₂⟩

theorem State.takeOpen_workLinked {s : State} (hs : s.workLinked) (n : Fin 32) (hfree : s.table.held = none) :
    (s.takeOpen n).workLinked := by
  have hasks := s.takeOpen_asks n
  obtain ⟨m, u, j, N, h⟩ := s.takeOpen_frame n
  rw [h] at hasks ⊢
  refine State.asked_workLinked hs hfree (hasks.imp id ?_)
  rintro ⟨k, hu, hj, hk₁, hk₂⟩
  exact ⟨k, hj, hk₁, hk₂, .inl ⟨_, _, _, hu⟩⟩

theorem State.takeBatch_workLinked {s : State} (hs : s.workLinked) (n : Fin 32) (hfree : s.table.held = none) :
    (s.takeBatch n).workLinked := by
  have hasks := s.takeBatch_asks n
  obtain ⟨m, u, j, N, h⟩ := s.takeBatch_frame n
  rw [h] at hasks ⊢
  refine State.asked_workLinked hs hfree (hasks.imp id ?_)
  rintro ⟨offset, count, k, hu, hj, hk₁, hk₂⟩
  exact ⟨k, hj, hk₁, hk₂, .inr ⟨_, _, _, _, hu⟩⟩

/-- The table unit waits for nothing before the event and for nothing after it. -/
theorem State.workReady_of_unasked {s t : State} (hs : s.workLinked)
    (hbefore : s.table.held = none ∨ (∃ n, s.table.held = some (n, .serviceClose)) ∨
      ∃ n table entry, s.table.held = some (n, .serviceOpen table entry true))
    (hafter : t.table.held = none ∨ ∃ n, t.table.held = some (n, .serviceClose))
    (hflight : t.engine.flight = s.engine.flight) (hcheck : t.check = s.check) (hdeny : t.deny = s.deny) : t.workReady := by
  obtain ⟨h₁, h₂, h₃, h₄⟩ := hs
  refine ⟨State.engineLinked_of_same h₁ (by rw [hflight]) (by rw [hcheck]) (by rw [hdeny]), ?_, .inr (by rwa [hcheck]),
    by rwa [hdeny]⟩
  rw [State.tableLinked_of_unasked (hafter.imp id .inl), hcheck, hdeny]
  exact (State.tableLinked_of_unasked hbefore).1 h₂

theorem State.takeClose_held (s : State) (n : Fin 32) :
    (s.takeClose n).table.held = none ∨ ∃ n', (s.takeClose n).table.held = some (n', .serviceClose) := by
  rcases s.takeClose_cases n with ⟨answer, h⟩ | ⟨-, ⟨-, h⟩ | h⟩ <;> rw [h]
  · exact .inl rfl
  · exact .inl rfl
  · exact .inr ⟨n, rfl⟩

theorem State.takeProbe_workReady {s : State} (hs : s.workLinked) (n : Fin 32) (hfree : s.table.held = none) :
    (s.takeProbe n).workReady := by
  obtain ⟨hengine, htable, hcheck, hdeny⟩ := hs
  obtain ⟨hjob, hedit, hprobe⟩ := (State.tableLinked_of_unasked (.inl hfree)).1 htable
  obtain ⟨m, N, h⟩ := s.takeProbe_frame n
  rw [h]
  exact ⟨State.engineLinked_of_same hengine rfl rfl rfl, (State.tableLinked_of_probe rfl).2 ⟨hjob, hedit, rfl⟩, .inr hcheck,
    DenyUnit.busy_of_request hdeny rfl rfl rfl id (by simp [hprobe]) id⟩

/-! ### The engine's take and completion -/

theorem State.inspect_workReady {s : State} (hs : s.workLinked) (n : Fin 32) (hmay : s.mayInspect = true) :
    ((s.take .inspection n).beginInspection n).workReady := by
  obtain ⟨hengine, htable, hcheck, hdeny⟩ := hs
  have hidle : s.engine.flight = none := by
    simp only [State.mayInspect, Bool.and_eq_true] at hmay
    exact Option.isNone_iff_eq_none.mp hmay.1.1
  obtain ⟨hjob, hlookup⟩ := (State.engineLinked_of_idle hidle).1 hengine
  have hlinked := State.beginInspection_engineLinked (s := s.take .inspection n) n (by rwa [State.take_check])
    (by rwa [State.take_deny])
  obtain ⟨f, -, -, -, -, h⟩ := (s.take .inspection n).beginInspection_spec n
  generalize ((s.take .inspection n).beginInspection n).check.engineJob = run at h
  rw [h] at hlinked ⊢
  rw [State.take_inspection_eq] at hlinked ⊢
  exact ⟨hlinked, State.tableLinked_of_same htable rfl rfl rfl rfl, CheckUnit.ready_of_engineRequest hcheck hjob run, hdeny⟩

theorem Run.keepsWork {s t : State} {c : Instr} (h : Run s c t) (hs : s.workLinked) : t.workLinked := by
  have same {t : State} (hflight : t.engine = s.engine) (htable : t.table = s.table) (hcheck : t.check = s.check)
      (hdeny : t.deny = s.deny) : t.driveNote.settled.workLinked :=
    State.event_workLinked (State.workReady_of_same hs (by rw [hflight]) (by rw [htable]) hcheck hdeny)
  have dayChanged {t : State} (hflight : t.engine = s.engine) (htable : t.table = s.table) (hcheck : t.check = s.check)
      (hdeny : t.deny = s.deny ∨ ∃ day, t.deny = s.deny.dayChange day) : t.driveNote.settled.workLinked := by
    rcases hdeny with hdeny | ⟨day, hdeny⟩
    · exact same hflight htable hcheck hdeny
    · obtain ⟨h₁, h₂, h₃, h₄⟩ := hs
      refine State.event_workLinked ⟨State.engineLinked_of_same h₁ (by rw [hflight]) (by rw [hcheck]) ?_,
        State.tableLinked_of_same h₂ (by rw [htable]) (by rw [hcheck]) ?_ ?_, .inr (by rwa [hcheck]), ?_⟩
      · rw [hdeny, DenyUnit.dayChange_spec]
      · rw [hdeny, DenyUnit.dayChange_spec]
      · rw [hdeny, DenyUnit.dayChange_spec]
      · rw [hdeny]
        exact DenyUnit.busy_dayChange h₄ day
  cases h with
  | absent => exact hs
  | powerOn => exact State.event_workLinked ⟨(State.engineLinked_of_idle rfl).2 ⟨rfl, rfl⟩,
      (State.tableLinked_of_unasked (.inl rfl)).2 ⟨rfl, rfl, rfl⟩, .inl rfl, DenyUnit.busy_of_free rfl rfl⟩
  | @access c a data lanes hc =>
    rcases s.access_cases a data lanes with ⟨-, h⟩ | ⟨rfl, h⟩ | ⟨-, h⟩ | ⟨-, h⟩ | ⟨-, -, -, -, h⟩ <;> rw [h]
    · obtain ⟨m, q, F, N, h⟩ := s.writeMemoryWord_frame a data lanes
      rw [h]
      exact same rfl rfl rfl rfl
    · cases hw : resetWrite data lanes with
      | true =>
        obtain ⟨m, i, j, u, N, hf⟩ := State.engineReset_frame { s with notice := s.notice.control data }
        rw [State.writeEngControl_of_resetWrite _ hw, hf]
        refine State.event_workLinked ⟨(State.engineLinked_of_idle rfl).2 ⟨rfl, rfl⟩,
          (State.tableLinked_of_unasked (.inl rfl)).2 ⟨rfl, rfl, rfl⟩, .inl rfl, DenyUnit.busy_of_free rfl rfl⟩
      | false =>
        rw [State.writeEngControl_of_not_resetWrite _ hw]
        exact same rfl rfl rfl rfl
    · obtain ⟨m, h⟩ := s.clearEvents_frame data lanes
      rw [h]
      exact same rfl rfl rfl rfl
    · exact same rfl rfl rfl rfl
    · exact same rfl rfl rfl rfl
  | ignored => exact State.settled_workLinked (State.workReady_of_workLinked hs)
  | mirrorRead lanes => exact State.settled_workLinked (State.workReady_of_same hs rfl rfl rfl rfl)
  | clockEdge =>
    have hdeny := s.clockEdge_deny
    obtain ⟨m, k, d, F, h⟩ := s.clockEdge_frame
    rw [h] at hdeny ⊢
    exact dayChanged rfl rfl rfl hdeny
  | loseClock =>
    obtain ⟨m, F, h⟩ := s.loseClock_frame
    rw [h]
    exact same rfl rfl rfl rfl
  | inspect hhead hmay => exact State.event_workLinked (State.inspect_workReady hs _ hmay)
  | @inspectCompletion f v hflight hstage =>
    obtain ⟨h₁, h₂, h₃, h₄⟩ := hs
    obtain ⟨m, r, l, F, N, h⟩ := s.completeInspection_frame f v
    rw [h]
    exact State.event_workLinked ⟨(State.engineLinked_of_idle rfl).2 ((State.engineLinked_of_judged hflight hstage).1 h₁),
      State.tableLinked_of_same h₂ rfl rfl rfl rfl, .inr h₃, h₄⟩
  | checkJobEnd => exact State.asking_workLinked (State.endJob_workLinked (State.chooseCheck_workLinked hs))
  | checkPieceEnd => exact State.event_workLinked (State.endPiece_workReady (State.chooseCheck_workLinked hs))
  | engineLookup hserves hlookup => exact State.event_workLinked (State.serveEngineLookup_workReady hs hlookup)
  | probeLookup hserves hlookup => exact State.event_workLinked (State.serveProbe_workReady hs hlookup)
  | add hedit => exact State.applyAdd_workLinked hs (by rw [State.edit_of_servedEdit hedit]; rfl) _ _ _
  | delete hedit => exact State.listed_workLinked hs (by rw [State.edit_of_servedEdit hedit]; rfl) _
  | clear hedit => exact State.listed_workLinked hs (by rw [State.edit_of_servedEdit hedit]; rfl) _
  | sweepStep =>
    obtain ⟨h₁, h₂, h₃, h₄⟩ := hs
    obtain ⟨hengine, hprobe, hedit⟩ := s.deny.sweepOnce_requests
    obtain ⟨m, h⟩ := s.applySweepStep_frame
    rw [h]
    refine State.event_workLinked ⟨State.engineLinked_of_same h₁ rfl rfl (.trans ?_ hengine),
      State.tableLinked_of_same h₂ rfl rfl (.trans ?_ hedit) (.trans ?_ hprobe), .inr h₃, DenyUnit.busy_complete _⟩ <;>
      rw [DenyUnit.complete_spec]
  | @depart n =>
    obtain ⟨m, k, N, h⟩ := s.serveDepart_frame n
    rw [h]
    exact same rfl rfl rfl rfl
  | @arrive n =>
    obtain ⟨m, k, p, r, cap, v, l, F, N, h⟩ := s.serveArrive_frame n
    rw [h]
    exact State.event_workLinked (State.workReady_of_same hs rfl rfl rfl rfl)
  | @pass n =>
    obtain ⟨m, p, r, cap, l, F, N, h⟩ := s.servePass_frame n
    rw [h]
    exact same rfl rfl rfl rfl
  | @set n =>
    obtain ⟨m, k, p, v, F, N, h⟩ := s.serveSet_frame n
    rw [h]
    exact State.event_workLinked (State.workReady_of_same hs rfl rfl rfl rfl)
  | @badEvent n =>
    obtain ⟨m, N, h⟩ := s.serveBadEvent_frame n
    rw [h]
    exact same rfl rfl rfl rfl
  | @clockSet n =>
    have hdeny := s.serveClockSet_deny n
    obtain ⟨m, k, d, F, N, h⟩ := s.serveClockSet_frame n
    rw [h] at hdeny ⊢
    exact dayChanged rfl rfl rfl hdeny
  | serviceOpen hhead =>
    exact State.asking_workLinked (State.takeOpen_workLinked (State.chooseCheck_workLinked hs) _ (State.head_of_tableHead hhead).1)
  | @serviceOpenCompletion n table entry hheld =>
    obtain ⟨m, F, N, h⟩ := s.completeOpen_frame n
    rw [h]
    exact State.event_workLinked (State.workReady_of_unasked hs (.inr (.inr ⟨_, _, _, hheld⟩)) (.inl rfl) rfl rfl rfl)
  | @serviceClose n hhead =>
    have hheld := s.takeClose_held n
    obtain ⟨m, j, u, l, F, N, h⟩ := s.takeClose_frame n
    rw [h] at hheld ⊢
    exact State.event_workLinked (State.workReady_of_unasked hs (.inl (State.head_of_tableHead hhead).1) hheld rfl rfl rfl)
  | @serviceCloseCompletion n hheld =>
    obtain ⟨m, F, N, h⟩ := s.completeClose_frame n
    rw [h]
    exact State.event_workLinked (State.workReady_of_unasked hs (.inr (.inl ⟨_, hheld⟩)) (.inl rfl) rfl rfl rfl)
  | denyBatch hhead =>
    exact State.asking_workLinked (State.takeBatch_workLinked (State.chooseCheck_workLinked hs) _ (State.head_of_tableHead hhead).1)
  | denyProbe hhead =>
    exact State.event_workLinked (State.takeProbe_workReady hs _ (State.head_of_tableHead hhead).1)

/-- Settles O54, by `Run.keepsWork`. -/
theorem stepKeepsWorkLinked : Obligations.StepKeepsWorkLinked := by
  intro s t hs h
  exact step_induction (p := fun s t => s.workLinked → t.workLinked) (fun s hs => State.idle_workLinked hs)
    (fun _ _ _ _ hr hs => hr.keepsWork hs) h hs

end Sys2Proof.Machine
end

section
/-!
Every step keeps a table-unit job at the remainder of the bytes it has taken. The guards hold the bytes of its run while
it is in hand, a piece served adds its bytes to the remainder, and any other command leaves the job where it is.
-/
namespace Sys2Proof.Machine

/-! ### What a job covers -/

/-- The run of the job is the one the cell in hand asked for (R109, R150). -/
def TableUnit.covers (u : TableUnit) (j : TableJob) : Prop :=
  match u.held with
  | some (_, .serviceOpen table _ _) => 1 ≤ table ∧ table ≤ 5 ∧ (j.base, j.length) = Config.tableExtent table
  | some (_, .denyBatch offset count _ _) => Config.bulkBase ≤ offset ∧ (j.base, j.length) = (offset, batchLength count)
  | some (_, .serviceClose) | some (_, .denyProbe) | none => False

theorem TableUnit.covers_serviceOpen {u : TableUnit} {j : TableJob} {n : Fin 32} {table entry : Nat} {passed : Bool}
    (h : u.held = some (n, .serviceOpen table entry passed)) :
    u.covers j ↔ 1 ≤ table ∧ table ≤ 5 ∧ (j.base, j.length) = Config.tableExtent table := by
  rw [TableUnit.covers, h]

theorem TableUnit.covers_denyBatch {u : TableUnit} {j : TableJob} {n : Fin 32} {offset count applied : Nat} {applying : Bool}
    (h : u.held = some (n, .denyBatch offset count applied applying)) :
    u.covers j ↔ Config.bulkBase ≤ offset ∧ (j.base, j.length) = (offset, batchLength count) := by
  rw [TableUnit.covers, h]

/-- The job has taken whole pieces and not the last, and holds the remainder of the bytes taken (R162, R164). -/
def TableJob.holds (j : TableJob) (m : Memory) : Prop :=
  j.position < j.length ∧ j.position % Config.pieceSize = 0 ∧ j.remainder = checkOf (m.readList j.base j.position)

/-- A piece in service goes on from the remainder of its job (R164). -/
def CheckUnit.resumes (u : CheckUnit) : Prop :=
  ∀ j ∈ u.tableJob, ∀ w ∈ u.serving, w.owner = .tableUnit → w.remainder = j.remainder

theorem State.tableJobSound_iff (s : State) :
    s.tableJobSound ↔ (∀ j ∈ s.check.tableJob, s.table.covers j ∧ j.holds s.mem) ∧ s.check.resumes := by
  constructor
  · intro h
    refine ⟨fun j hj => ?_, fun j hj => (h j hj).2.2.2.2⟩
    obtain ⟨hcovers, hlength, hwhole, hremainder, -⟩ := h j hj
    exact ⟨hcovers, hlength, hwhole, hremainder⟩
  · rintro ⟨hjob, hresumes⟩ j hj
    obtain ⟨hcovers, hlength, hwhole, hremainder⟩ := hjob j hj
    exact ⟨hcovers, hlength, hwhole, hremainder, hresumes j hj⟩

theorem TableJob.holds_congr {j : TableJob} {m m' : Memory} (h : j.holds m)
    (hmem : ∀ x, j.base ≤ x → x < j.base + j.length → m'.read x = m.read x) : j.holds m' := by
  obtain ⟨hlength, hwhole, hremainder⟩ := h
  refine ⟨hlength, hwhole, ?_⟩
  rw [Memory.readList_congr fun x h₁ h₂ => hmem x h₁ (by omega)]
  exact hremainder

/-- A job begins with the preset at its first byte (R162). -/
theorem TableJob.holds_of_start {j : TableJob} (m : Memory) (hlength : 0 < j.length) (hposition : j.position = 0)
    (hremainder : j.remainder = checkPreset) : j.holds m :=
  ⟨by rwa [hposition], by rw [hposition]; rfl, by rw [hposition, hremainder]; rfl⟩

/-- A piece that is not the last adds its 64 bytes (R164). -/
theorem TableJob.holds_of_piece {j : TableJob} {s : State} (h : j.holds s.mem) (hlast : j.lastPiece = false) {r : Word}
    (hr : r = j.remainder) :
    ({ j with position := j.position + Config.pieceSize, remainder := s.pieceRemainder j r } : TableJob).holds s.mem := by
  obtain ⟨hlength, hwhole, hremainder⟩ := h
  have hmore : Config.pieceSize < j.length - j.position := by
    rw [TableJob.lastPiece, decide_eq_false_iff_not] at hlast
    omega
  refine ⟨?_, ?_, ?_⟩
  · show j.position + Config.pieceSize < j.length
    omega
  · show (j.position + Config.pieceSize) % Config.pieceSize = 0
    rw [Nat.add_mod_right]
    exact hwhole
  · show s.pieceRemainder j r = checkOf (s.mem.readList j.base (j.position + Config.pieceSize))
    rw [Memory.readList_add, checkOf, checkFrom_append, ← checkOf, ← hremainder, State.pieceRemainder, hr, TableJob.pieceLength,
      Nat.min_eq_left hmore.le]

theorem CheckUnit.resumes_choose {u : CheckUnit} (h : u.resumes) : u.choose.resumes := by
  intro j hj w hw howner
  rw [CheckUnit.choose_spec] at hj hw
  dsimp only at hj hw
  split at hw
  · exact h j hj w hw howner
  · split at hw
    · cases hw
      cases howner
    · rw [hj] at hw
      cases hw
      rfl

theorem CheckUnit.resumes_of_idle {u : CheckUnit} (h : u.serving = none) : u.choose.resumes :=
  CheckUnit.resumes_choose fun j _ w hw => by rw [h] at hw; cases hw

/-! ### The run of a job is guarded -/

theorem State.mem_tableJob_held {s : State} (hs : s.workLinked) {j : TableJob} (hj : j ∈ s.check.tableJob) :
    (∃ n table entry, s.table.held = some (n, .serviceOpen table entry false)) ∨
      ∃ n offset count i, s.table.held = some (n, .denyBatch offset count i false) :=
  State.held_of_tableJob hs.2.1 (by rw [Option.mem_def.mp hj]; rfl)

theorem Config.tableExtent_context {table : Nat} (h₁ : 1 ≤ table) (h₂ : table ≤ 5) :
    0x1000 ≤ (Config.tableExtent table).1 ∧ 0 < (Config.tableExtent table).2 ∧
      (Config.tableExtent table).1 + (Config.tableExtent table).2 ≤ 0x3000 := by
  obtain rfl | rfl | rfl | rfl | rfl : table = 1 ∨ table = 2 ∨ table = 3 ∨ table = 4 ∨ table = 5 := by omega
  all_goals decide

/-- The bytes of a job in hand lie under a guard: the tables' while CHECKING, and a batch's extent (R149, R108). -/
theorem State.guarded_of_tableJob {s : State} (hfits : s.taskFits) (hlinked : s.workLinked) {j : TableJob}
    (hj : j ∈ s.check.tableJob) (hcovers : s.table.covers j) {x : Nat} (h₁ : j.base ≤ x) (h₂ : x < j.base + j.length) :
    Config.scratchBase ≤ x ∧ s.guarded x = true := by
  rcases State.mem_tableJob_held hlinked hj with ⟨n, table, entry, hheld⟩ | ⟨n, offset, count, i, hheld⟩
  · obtain ⟨hlow, hhigh, hextent⟩ := (TableUnit.covers_serviceOpen hheld).1 hcovers
    have hrange := Config.tableExtent_context hlow hhigh
    rw [← hextent] at hrange
    rw [State.taskFits, hheld] at hfits
    have hx : Config.scratchBase ≤ x := by simp only [Config.scratchBase]; omega
    exact ⟨hx, State.guarded_context (by rw [hfits.1]; decide) (by omega) (by omega)⟩
  · obtain ⟨hoffset, hextent⟩ := (TableUnit.covers_denyBatch hheld).1 hcovers
    rw [Prod.mk.injEq] at hextent
    have hx : Config.scratchBase ≤ x := by simp only [Config.scratchBase, Config.bulkBase] at *; omega
    exact ⟨hx, State.guarded_batch hheld hoffset (by omega) (by omega)⟩

/-! ### A job that the command leaves alone -/

section Kept

variable {s t : State} {c : Instr}

/-- No command but power-on changes what a job has read. -/
theorem Run.keeps_holds (h : Run s c t) (hpower : c ≠ .powerOn) (hfits : s.taskFits) (hlinked : s.workLinked)
    {j : TableJob} (hj : j ∈ s.check.tableJob) (hcovers : s.table.covers j) (hholds : j.holds s.mem) : j.holds t.mem :=
  TableJob.holds_congr hholds fun x h₁ h₂ => by
    obtain ⟨hx, hguard⟩ := State.guarded_of_tableJob hfits hlinked hj hcovers h₁ h₂
    exact h.read_of_guarded hpower hx hguard

theorem TableUnit.covers_congr {u v : TableUnit} (h : v.held = u.held) (j : TableJob) : v.covers j ↔ u.covers j := by
  rw [TableUnit.covers, TableUnit.covers, h]

theorem State.tableJobSound_of_none (h : t.check.tableJob = none) : t.tableJobSound := by
  rintro j hj
  rw [h] at hj
  cases hj

/-- The job stands, with the cell that asked for it. -/
theorem State.tableJobSound_of_kept (hs : s.tableJobSound)
    (hmem : ∀ j ∈ s.check.tableJob, s.table.covers j → j.holds s.mem → j.holds t.mem)
    (hjob : t.check.tableJob = s.check.tableJob) (hheld : t.table.held = s.table.held) (hresumes : t.check.resumes) :
    t.tableJobSound := by
  obtain ⟨hall, -⟩ := s.tableJobSound_iff.1 hs
  refine t.tableJobSound_iff.2 ⟨fun j hj => ?_, hresumes⟩
  rw [hjob] at hj
  obtain ⟨hcovers, hholds⟩ := hall j hj
  exact ⟨(TableUnit.covers_congr hheld j).2 hcovers, hmem j hj hcovers hholds⟩

end Kept

/-! ### A new job -/

/-- A job just asked for, while the check unit serves none of the table unit's. -/
theorem State.tableJobSound_of_start {t : State} {j : TableJob} (hjob : t.check.tableJob = some j) (hcovers : t.table.covers j)
    (hlength : 0 < j.length) (hposition : j.position = 0) (hremainder : j.remainder = checkPreset)
    (hserving : ∀ w ∈ t.check.serving, w.owner ≠ .tableUnit) : t.tableJobSound := by
  refine t.tableJobSound_iff.2 ⟨fun i hi => ?_, fun i _ w hw howner => absurd howner (hserving w hw)⟩
  obtain rfl : j = i := by rwa [hjob, Option.mem_some_iff] at hi
  exact ⟨hcovers, TableJob.holds_of_start _ hlength hposition hremainder⟩

/-- Without a job of the table unit the check unit serves none. -/
theorem CheckUnit.owner_of_busy {u : CheckUnit} (h : u.busy) (hjob : u.tableJob = none) : ∀ w ∈ u.serving, w.owner ≠ .tableUnit := by
  rintro w hw howner
  rw [CheckUnit.busy, Option.mem_def.mp hw, Option.map_some, howner, hjob] at h
  cases h

theorem CheckUnit.owner_choose {u : CheckUnit} (h : u.serving = none) (hjob : u.tableJob = none) :
    ∀ w ∈ u.choose.serving, w.owner ≠ .tableUnit :=
  CheckUnit.owner_of_busy (CheckUnit.choose_busy (.inl h)) (by rwa [CheckUnit.choose_tableJob])

/-- The take of an open asks for the check of table 1 (R150). -/
theorem State.takeOpen_tableJobSound {s : State} (n : Fin 32) (hjob : s.check.tableJob = none) (hbusy : s.check.busy) :
    (s.takeOpen n).tableJobSound := by
  have refused (detail : Byte) : (s.refuseOpen n detail).tableJobSound := by
    refine State.tableJobSound_of_none ?_
    rw [State.refuseOpen, State.finishTable_check, State.take_check]
    exact hjob
  unfold State.takeOpen
  split
  · exact refused _
  · split
    · exact refused _
    · refine State.tableJobSound_of_start rfl ((TableUnit.covers_serviceOpen rfl).2 ⟨le_rfl, by decide, rfl⟩) (by decide) rfl rfl ?_
      show ∀ w ∈ ((s.take .table n).enterService .checking).check.serving, _
      rw [State.enterService_check, State.take_check]
      exact CheckUnit.owner_of_busy hbusy hjob

/-- The take of a batch asks for the check of its extent in the bulk area (R107, R109). -/
theorem State.takeBatch_tableJobSound {s : State} (n : Fin 32) (hjob : s.check.tableJob = none) (hbusy : s.check.busy) :
    (s.takeBatch n).tableJobSound := by
  unfold State.takeBatch
  dsimp only
  split
  · refine State.tableJobSound_of_none ?_
    rw [State.finishBatch, State.finishTable_check, State.take_check]
    exact hjob
  next hfault =>
    have hoffset : Config.bulkBase ≤ s.cellWord n 8 := by
      unfold Memory.rangeFault at hfault
      split at hfault
      · cases hfault
      · omega
    refine State.tableJobSound_of_start rfl ((TableUnit.covers_denyBatch rfl).2 ⟨hoffset, rfl⟩) (Nat.add_pos_left (by decide) _)
      rfl rfl ?_
    show ∀ w ∈ (s.take .table n).check.serving, _
    rw [State.take_check]
    exact CheckUnit.owner_of_busy hbusy hjob

/-- The residue of a table asks for the next table's check, and a batch's for no job (R150). -/
theorem State.tableResult_tableJobSound {s : State} (residue : Word) (hjob : s.check.tableJob = none)
    (hserving : ∀ w ∈ s.check.serving, w.owner ≠ .tableUnit) : (s.tableResult residue).tableJobSound := by
  rcases s.tableResult_cases residue with ⟨n, table, entry, -, h⟩ | ⟨n, offset, count, i, -, h⟩ | ⟨-, -, h⟩ <;> rw [h]
  · rcases s.openResidue_cases n table residue with ⟨a, b, d, h⟩ | ⟨hnext, h⟩ | ⟨-, h⟩ <;> rw [h]
    · refine State.tableJobSound_of_none ?_
      rw [State.failOpen, State.finishTable_check, State.enterService_check]
      exact hjob
    · have hrange := Config.tableExtent_context (table := table + 1) (by omega) (by omega)
      exact State.tableJobSound_of_start rfl ((TableUnit.covers_serviceOpen rfl).2 ⟨by omega, by omega, rfl⟩) hrange.2.1 rfl rfl
        hserving
    · exact State.tableJobSound_of_none hjob
  · rcases s.batchResidue_cases n offset count residue with ⟨a, b, d, h⟩ | ⟨e, h⟩ <;> rw [h]
    · refine State.tableJobSound_of_none ?_
      rw [State.finishBatch, State.finishTable_check]
      exact hjob
    · exact State.tableJobSound_of_none hjob
  · exact State.tableJobSound_of_none hjob

/-! ### The end of an event -/

theorem State.tableJobSound.event {t : State} (h : t.tableJobSound) : t.driveNote.settled.tableJobSound := by
  obtain ⟨hall, hresumes⟩ := t.tableJobSound_iff.1 h
  refine State.tableJobSound_iff _ |>.2 ⟨fun j hj => ?_, CheckUnit.resumes_choose hresumes⟩
  exact hall j (by rwa [State.settled_check, CheckUnit.choose_tableJob] at hj)

theorem State.tableJobSound.asking {t : State} (h : t.tableJobSound) : t.advanceDeny.driveNote.tableJobSound := h

/-- An event that leaves the check unit's slot for the table unit, and the cell, as they were. -/
theorem State.event_tableJobSound_of_kept {s u : State} (hs : s.tableJobSound)
    (hmem : ∀ j ∈ s.check.tableJob, s.table.covers j → j.holds s.mem → j.holds u.driveNote.settled.mem)
    (hjob : u.check.tableJob = s.check.tableJob) (hheld : u.table.held = s.table.held) (hserving : u.check.serving = s.check.serving) :
    u.driveNote.settled.tableJobSound := by
  refine State.tableJobSound.event (State.tableJobSound_of_kept (t := u) hs hmem hjob hheld fun j hj w hw => ?_)
  rw [hjob] at hj
  rw [hserving] at hw
  exact (s.tableJobSound_iff.1 hs).2 j hj w hw

theorem State.event_tableJobSound_of_none {u : State} (h : u.check.tableJob = none) : u.driveNote.settled.tableJobSound :=
  (State.tableJobSound_of_none h).event

/-- An edit, a probe or a completion leaves a slot that was empty empty. -/
theorem State.tableJob_of_unasked {s : State} (hlinked : s.workLinked)
    (h : ∀ n table entry offset count i, s.table.held ≠ some (n, .serviceOpen table entry false) ∧
      s.table.held ≠ some (n, .denyBatch offset count i false)) : s.check.tableJob = none := by
  cases hjob : s.check.tableJob with
  | none => rfl
  | some j =>
    rcases State.mem_tableJob_held hlinked hjob with ⟨n, table, entry, hheld⟩ | ⟨n, offset, count, i, hheld⟩
    · exact absurd hheld (h n table entry 0 0 0).1
    · exact absurd hheld (h n 0 0 offset count i).2

theorem State.chooseCheck_tableJobSound {s : State} (hs : s.tableJobSound) : s.chooseCheck.tableJobSound := by
  obtain ⟨hall, hresumes⟩ := s.tableJobSound_iff.1 hs
  refine State.tableJobSound_iff _ |>.2 ⟨fun j hj => ?_, CheckUnit.resumes_choose hresumes⟩
  exact hall j (by rwa [State.chooseCheck_check, CheckUnit.choose_tableJob] at hj)

/-- The end of a job frees its slot: an engine's leaves the table unit's job, a table unit's may be followed by the next. -/
theorem State.endJob_tableJobSound {s : State} (hs : s.tableJobSound)
    (hmem : ∀ j ∈ s.check.tableJob, s.table.covers j → j.holds s.mem → j.holds s.endJob.mem) : s.endJob.tableJobSound := by
  rcases s.endJob_cases with ⟨r, run, hserving, hrun, h⟩ | ⟨r, j, hserving, hj, h⟩ | h
  · rw [h] at hmem ⊢
    refine State.tableJobSound_of_kept hs hmem ?_ ?_ ?_ <;> rw [State.engineResult_spec]
    · exact CheckUnit.choose_tableJob _
    · rfl
    · exact CheckUnit.resumes_of_idle rfl
  · rw [h]
    exact State.tableResult_tableJobSound _ (CheckUnit.choose_tableJob _) (CheckUnit.owner_choose rfl rfl)
  · rwa [h]

/-- The end of a piece that is not the last (R164). -/
theorem State.endPiece_tableJobSound {s : State} (hs : s.tableJobSound) (hdue : s.check.pieceEndDue = true) :
    s.endPiece.tableJobSound := by
  obtain ⟨hall, hresumes⟩ := s.tableJobSound_iff.1 hs
  unfold State.endPiece
  split
  next r j hserving hjob =>
    have hlast : j.lastPiece = false := by
      rw [CheckUnit.pieceEndDue, hserving, hjob] at hdue
      simpa using hdue
    obtain ⟨hcovers, hholds⟩ := hall j hjob
    refine State.tableJobSound_iff _ |>.2 ⟨fun i hi => ?_, CheckUnit.resumes_of_idle rfl⟩
    change i ∈ (CheckUnit.choose _).tableJob at hi
    rw [CheckUnit.choose_tableJob, Option.mem_some_iff] at hi
    subst hi
    exact ⟨hcovers, TableJob.holds_of_piece hholds hlast (hresumes j hjob _ hserving rfl)⟩
  next => exact hs

/-! ### Every step -/

theorem Run.keepsTableJob {s t : State} {c : Instr} (h : Run s c t) (hfits : s.taskFits) (hlinked : s.workLinked)
    (hs : s.tableJobSound) : t.tableJobSound := by
  have hmem (hpower : c ≠ .powerOn) (j : TableJob) (hj : j ∈ s.check.tableJob) (hcovers : s.table.covers j)
      (hholds : j.holds s.mem) : j.holds t.mem := h.keeps_holds hpower hfits hlinked hj hcovers hholds
  have freed (hfree : s.table.held = none) : s.check.tableJob = none :=
    State.tableJob_of_unasked hlinked fun _ _ _ _ _ _ => by simp [hfree]
  have edited {e : Edit} (hedit : s.servedEdit = some e) : s.check.tableJob = none := by
    obtain ⟨n, offset, count, i, hheld⟩ := State.held_of_edit hlinked.2.1 (by rw [State.edit_of_servedEdit hedit]; rfl)
    exact State.tableJob_of_unasked hlinked fun _ _ _ _ _ _ => by simp [hheld]
  have asked : s.chooseCheck.check.busy := (State.chooseCheck_workLinked hlinked).2.2.1
  have chosen (hfree : s.table.held = none) : s.chooseCheck.check.tableJob = none := by
    rw [State.chooseCheck_check, CheckUnit.choose_tableJob]
    exact freed hfree
  cases h with
  | absent => exact hs
  | powerOn => exact State.event_tableJobSound_of_none rfl
  | @access c a data lanes hc =>
    have hmem := hmem (by rintro rfl; cases hc)
    rcases s.access_cases a data lanes with ⟨-, h⟩ | ⟨rfl, h⟩ | ⟨-, h⟩ | ⟨-, h⟩ | ⟨-, -, -, -, h⟩ <;> rw [h] at hmem ⊢
    · obtain ⟨m, q, F, N, h⟩ := s.writeMemoryWord_frame a data lanes
      exact State.event_tableJobSound_of_kept hs hmem (by rw [h]) (by rw [h]) (by rw [h])
    · cases hw : resetWrite data lanes with
      | true =>
        obtain ⟨m, i, j, u, N, hf⟩ := State.engineReset_frame { s with notice := s.notice.control data }
        rw [State.writeEngControl_of_resetWrite _ hw, hf]
        exact State.event_tableJobSound_of_none rfl
      | false =>
        rw [State.writeEngControl_of_not_resetWrite _ hw] at hmem ⊢
        exact State.event_tableJobSound_of_kept hs hmem rfl rfl rfl
    · obtain ⟨m, h⟩ := s.clearEvents_frame data lanes
      exact State.event_tableJobSound_of_kept hs hmem (by rw [h]) (by rw [h]) (by rw [h])
    · exact State.event_tableJobSound_of_kept hs hmem rfl rfl rfl
    · exact State.event_tableJobSound_of_kept hs hmem rfl rfl rfl
  | ignored => exact State.tableJobSound.event (t := s) hs
  | mirrorRead => exact State.tableJobSound.event (t := s) hs
  | clockEdge hc =>
    obtain ⟨m, k, d, F, h⟩ := s.clockEdge_frame
    exact State.event_tableJobSound_of_kept hs (hmem (by rintro rfl; rcases hc with hc | hc <;> cases hc)) (by rw [h])
      (by rw [h]) (by rw [h])
  | loseClock =>
    obtain ⟨m, F, h⟩ := s.loseClock_frame
    exact State.event_tableJobSound_of_kept hs (hmem (by simp)) (by rw [h]) (by rw [h]) (by rw [h])
  | @inspect n =>
    obtain ⟨f, -, -, -, -, h⟩ := (s.take .inspection n).beginInspection_spec n
    refine State.event_tableJobSound_of_kept hs (hmem (by simp)) ?_ ?_ ?_ <;> rw [h, State.take_inspection_eq]
  | @inspectCompletion f v =>
    obtain ⟨m, r, l, F, N, h⟩ := s.completeInspection_frame f v
    exact State.event_tableJobSound_of_kept hs (hmem (by simp)) (by rw [h]) (by rw [h]) (by rw [h])
  | checkJobEnd =>
    refine State.tableJobSound.asking (State.endJob_tableJobSound (State.chooseCheck_tableJobSound hs) fun j hj => ?_)
    rw [State.chooseCheck_check, CheckUnit.choose_tableJob] at hj
    exact hmem (by simp) j hj
  | checkPieceEnd hdue => exact (State.endPiece_tableJobSound (State.chooseCheck_tableJobSound hs) hdue).event
  | engineLookup =>
    obtain ⟨f, l, run, h⟩ := s.serveEngineLookup_frame _ _
    exact State.event_tableJobSound_of_kept hs (hmem (by simp)) (by rw [h]) (by rw [h]) (by rw [h])
  | probeLookup hserves hlookup =>
    obtain ⟨n, hheld⟩ := State.held_of_probeLookup hlinked.2.1 (by rw [hlookup]; rfl)
    obtain ⟨m, u, N, h⟩ := s.serveProbe_frame _
    rw [h]
    exact State.event_tableJobSound_of_none (State.tableJob_of_unasked (s := s) hlinked fun _ _ _ _ _ _ => by simp [hheld])
  | @add media reason expiry hedit =>
    obtain ⟨m, u, d, F, N, h⟩ := s.applyAdd_frame media reason expiry
    rw [h]
    exact State.tableJobSound_of_none ((CheckUnit.choose_tableJob _).trans (edited hedit))
  | @delete media hedit =>
    obtain ⟨m, u, d, N, h⟩ := s.applyDelete_frame media
    rw [h]
    exact State.tableJobSound_of_none ((CheckUnit.choose_tableJob _).trans (edited hedit))
  | clear hedit =>
    obtain ⟨m, u, d, N, h⟩ := s.applyClear_frame
    rw [h]
    exact State.tableJobSound_of_none ((CheckUnit.choose_tableJob _).trans (edited hedit))
  | sweepStep =>
    obtain ⟨m, h⟩ := s.applySweepStep_frame
    exact State.event_tableJobSound_of_kept hs (hmem (by simp)) (by rw [h]) (by rw [h]) (by rw [h])
  | @depart n =>
    obtain ⟨m, k, N, h⟩ := s.serveDepart_frame n
    exact State.event_tableJobSound_of_kept hs (hmem (by simp)) (by rw [h]) (by rw [h]) (by rw [h])
  | @arrive n =>
    obtain ⟨m, k, p, r, cap, v, l, F, N, h⟩ := s.serveArrive_frame n
    exact State.event_tableJobSound_of_kept hs (hmem (by simp)) (by rw [h]) (by rw [h]) (by rw [h])
  | @pass n =>
    obtain ⟨m, p, r, cap, l, F, N, h⟩ := s.servePass_frame n
    exact State.event_tableJobSound_of_kept hs (hmem (by simp)) (by rw [h]) (by rw [h]) (by rw [h])
  | @set n =>
    obtain ⟨m, k, p, v, F, N, h⟩ := s.serveSet_frame n
    exact State.event_tableJobSound_of_kept hs (hmem (by simp)) (by rw [h]) (by rw [h]) (by rw [h])
  | @badEvent n =>
    obtain ⟨m, N, h⟩ := s.serveBadEvent_frame n
    exact State.event_tableJobSound_of_kept hs (hmem (by simp)) (by rw [h]) (by rw [h]) (by rw [h])
  | @clockSet n =>
    obtain ⟨m, k, d, F, N, h⟩ := s.serveClockSet_frame n
    exact State.event_tableJobSound_of_kept hs (hmem (by simp)) (by rw [h]) (by rw [h]) (by rw [h])
  | serviceOpen hhead =>
    exact (State.takeOpen_tableJobSound _ (chosen (State.head_of_tableHead hhead).1) asked).asking
  | @serviceOpenCompletion n table entry hheld =>
    obtain ⟨m, F, N, h⟩ := s.completeOpen_frame n
    rw [h]
    exact State.event_tableJobSound_of_none (State.tableJob_of_unasked (s := s) hlinked fun _ _ _ _ _ _ => by simp [hheld])
  | @serviceClose n hhead =>
    obtain ⟨m, j, u, l, F, N, h⟩ := s.takeClose_frame n
    rw [h]
    exact State.event_tableJobSound_of_none (freed (State.head_of_tableHead hhead).1)
  | @serviceCloseCompletion n hheld =>
    obtain ⟨m, F, N, h⟩ := s.completeClose_frame n
    rw [h]
    exact State.event_tableJobSound_of_none (State.tableJob_of_unasked (s := s) hlinked fun _ _ _ _ _ _ => by simp [hheld])
  | denyBatch hhead =>
    exact (State.takeBatch_tableJobSound _ (chosen (State.head_of_tableHead hhead).1) asked).asking
  | @denyProbe n hhead =>
    obtain ⟨m, N, h⟩ := s.takeProbe_frame n
    rw [h]
    exact State.event_tableJobSound_of_none (freed (State.head_of_tableHead hhead).1)

/-- Settles O55, by `Run.keepsTableJob`. -/
theorem stepKeepsTableJob : Obligations.StepKeepsTableJob := by
  intro s t hservice hlinked hs h
  exact step_induction (p := fun s t => s.taskFits → s.workLinked → s.tableJobSound → t.tableJobSound)
    (fun s _ _ hs => State.chooseCheck_tableJobSound hs) (fun _ _ _ _ hr => hr.keepsTableJob) h hservice.2 hlinked hs

end Sys2Proof.Machine
end

section
/-!
The computation of the check unit, bit by bit (chapter 9.1): what a remainder does to its own bits, and why the residue
tells a change within 16 bits.
-/
namespace Sys2Proof.Machine

/-- The running remainder after a run of bits. -/
def checkBits (r : Word) (bits : List Bool) : Word :=
  bits.foldl checkBit r

@[simp] theorem checkBits_nil (r : Word) : checkBits r [] = r := rfl

@[simp] theorem checkBits_cons (r : Word) (b : Bool) (bits : List Bool) :
    checkBits r (b :: bits) = checkBits (checkBit r b) bits := rfl

theorem checkBits_append (r : Word) (as bs : List Bool) : checkBits r (as ++ bs) = checkBits (checkBits r as) bs :=
  List.foldl_append

/-- The remainder over bytes is that over their bits (R160). -/
theorem checkFrom_eq_checkBits (r : Word) (bs : List Byte) : checkFrom r bs = checkBits r (bitsOf bs) := by
  induction bs generalizing r with
  | nil => rfl
  | cons b bs ih =>
    have hbits : bitsOf (b :: bs) = [7, 6, 5, 4, 3, 2, 1, 0].map (b.getLsbD ·) ++ bitsOf bs := List.flatMap_cons
    rw [checkFrom_cons, ih, hbits, checkBits_append]
    rfl

theorem checkBits_xor (r q : Word) (as bs : List Bool) (h : as.length = bs.length) :
    checkBits (r ^^^ q) (List.zipWith (· ^^ ·) as bs) = checkBits r as ^^^ checkBits q bs := by
  induction as generalizing r q bs with
  | nil =>
    obtain rfl : bs = [] := List.length_eq_zero_iff.mp h.symm
    rfl
  | cons a as ih =>
    obtain ⟨b, bs, rfl⟩ := List.exists_cons_of_length_eq_add_one h.symm
    rw [List.zipWith_cons_cons, checkBits_cons, checkBits_cons, checkBits_cons, checkBit_xor]
    exact ih _ _ _ (by simpa using h)

/-! ### A remainder and its own bits -/

/-- A bit that equals the top of the remainder shifts it out. -/
theorem checkBit_top (r : Word) : checkBit r (r.getLsbD 15) = r <<< 1 := by
  simp [checkBit]

/-- A bit that differs from the top of the remainder leaves the lowest bit set. -/
theorem checkBit_of_ne_top {r : Word} {b : Bool} (h : b ≠ r.getLsbD 15) : (checkBit r b).getLsbD 0 = true := by
  have hx : (b ^^ r.getLsbD 15) = true := by simpa using h
  rw [checkBit, if_pos hx]
  simp

theorem checkBits_top (r : Word) (n : Nat) (hn : n ≤ 16) :
    checkBits r ((List.range n).map fun i => r.getLsbD (15 - i)) = r <<< n := by
  induction n with
  | zero => simp
  | succ n ih =>
    rw [List.range_succ, List.map_append, checkBits_append, ih (by omega)]
    have htop : r.getLsbD (15 - n) = (r <<< n).getLsbD 15 := by
      rw [BitVec.getLsbD_shiftLeft]
      simp [show ¬ 15 < n by omega]
    rw [List.map_cons, List.map_nil, checkBits_cons, checkBits_nil, htop, checkBit_top, ← BitVec.shiftLeft_add]

/-- The bits of a remainder, high byte first, bring it to 0000h (R161). -/
theorem checkFrom_own (r : Word) : checkFrom r [highByte r, lowByte r] = 0#16 := by
  have hbits : bitsOf [highByte r, lowByte r] = (List.range 16).map fun i => r.getLsbD (15 - i) := by
    simp [bitsOf, highByte, lowByte, List.range_succ]
  rw [checkFrom_eq_checkBits, hbits, checkBits_top r 16 le_rfl]
  exact BitVec.shiftLeft_eq_zero le_rfl

/-- A run with its check word, high byte first, has residue 0000h (R161). -/
theorem checkOf_append_own (bs : List Byte) : checkOf (bs ++ [highByte (checkOf bs), lowByte (checkOf bs)]) = 0#16 := by
  rw [checkOf, checkFrom_append]
  exact checkFrom_own _

/-! ### Short changes -/

/-- Up to 16 bits that bring a remainder to 0000h are its own top bits, and the rest of it is 0. -/
theorem eq_top_of_checkBits_eq_zero (bits : List Bool) (r : Word) (hlength : bits.length ≤ 16) (h : checkBits r bits = 0#16) :
    (∀ i (hi : i < bits.length), bits[i] = r.getLsbD (15 - i)) ∧ ∀ j, j < 16 - bits.length → r.getLsbD j = false := by
  induction bits generalizing r with
  | nil =>
    obtain rfl : r = 0#16 := h
    exact ⟨by simp, by simp⟩
  | cons b bits ih =>
    rw [List.length_cons] at hlength
    obtain ⟨hbits, hlow⟩ := ih (checkBit r b) (by omega) h
    have hb : b = r.getLsbD 15 := by
      by_contra hne
      exact absurd (checkBit_of_ne_top hne) (by rw [hlow 0 (by omega)]; simp)
    rw [hb, checkBit_top] at hbits hlow
    constructor
    · rintro (_ | i) hi
      · exact hb
      · have hi : i < bits.length := by simpa using hi
        rw [List.getElem_cons_succ, hbits i hi, BitVec.getLsbD_shiftLeft]
        simp [show 15 - i < 16 by omega, show 15 - i ≠ 0 by omega, show 15 - i - 1 = 15 - (i + 1) by omega]
    · intro j hj
      rw [List.length_cons] at hj
      have := hlow (j + 1) (by omega)
      rw [BitVec.getLsbD_shiftLeft] at this
      simpa [show j + 1 < 16 by omega] using this

theorem checkBits_zeros {bits : List Bool} (h : ∀ b ∈ bits, b = false) : checkBits 0#16 bits = 0#16 := by
  induction bits with
  | nil => rfl
  | cons b bits ih =>
    rw [h b List.mem_cons_self, checkBits_cons]
    exact ih fun c hc => h c (List.mem_cons_of_mem _ hc)

/-- Bits 0 bring no other remainder to 0000h. -/
theorem eq_zero_of_checkBits_zeros {bits : List Bool} (h : ∀ b ∈ bits, b = false) {r : Word}
    (hr : checkBits r bits = 0#16) : r = 0#16 := by
  induction bits generalizing r with
  | nil => exact hr
  | cons b bits ih =>
    have hfirst : checkBits r [false] = 0#16 := by
      rw [h b List.mem_cons_self] at hr
      exact ih (fun c hc => h c (List.mem_cons_of_mem _ hc)) hr
    obtain ⟨htop, hlow⟩ := eq_top_of_checkBits_eq_zero [false] r (by simp) hfirst
    refine BitVec.eq_of_getLsbD_eq fun i hi => ?_
    rw [BitVec.getLsbD_zero]
    by_cases hi' : i = 15
    · exact hi' ▸ (htop 0 (by simp)).symm
    · exact hlow i (by simp only [List.length_cons, List.length_nil]; omega)

/-- Ones within 16 bits of a run of zeros are told by the residue. -/
theorem zeros_of_checkBits_eq_zero {bits : List Bool} {k : Nat}
    (h : ∀ i (hi : i < bits.length), i < k ∨ k + 16 ≤ i → bits[i] = false) (hr : checkBits 0#16 bits = 0#16) :
    ∀ b ∈ bits, b = false := by
  have hbefore : ∀ b ∈ bits.take k, b = false := by
    intro b hb
    obtain ⟨i, hi, rfl⟩ := List.mem_take_iff_getElem.1 hb
    exact h i (by omega) (.inl (by omega))
  have hafter : ∀ b ∈ (bits.drop k).drop 16, b = false := by
    intro b hb
    rw [List.drop_drop] at hb
    obtain ⟨i, hi, rfl⟩ := List.mem_drop_iff_getElem.1 hb
    exact h _ (by omega) (.inr (by omega))
  have hwindow : checkBits 0#16 ((bits.drop k).take 16) = 0#16 := by
    refine eq_zero_of_checkBits_zeros hafter ?_
    rw [← checkBits_append, List.take_append_drop]
    rwa [← List.take_append_drop k bits, checkBits_append, checkBits_zeros hbefore] at hr
  obtain ⟨hzeros, -⟩ := eq_top_of_checkBits_eq_zero _ _ (List.length_take_le _ _) hwindow
  intro b hb
  rw [← List.take_append_drop k bits, ← List.take_append_drop 16 (bits.drop k), List.mem_append, List.mem_append] at hb
  rcases hb with hb | hb | hb
  · exact hbefore b hb
  · obtain ⟨i, hi, rfl⟩ := List.mem_iff_getElem.1 hb
    rw [hzeros i hi, BitVec.getLsbD_zero]
  · exact hafter b hb

theorem bitsOf_length (bs : List Byte) : (bitsOf bs).length = 8 * bs.length := by
  induction bs with
  | nil => rfl
  | cons b bs ih =>
    rw [bitsOf, List.flatMap_cons, List.length_append, ← bitsOf, ih, List.length_cons]
    simp only [List.length_map, List.length_cons, List.length_nil]
    omega

theorem bitsOf_injective {bs cs : List Byte} (h : bitsOf bs = bitsOf cs) : bs = cs := by
  induction bs generalizing cs with
  | nil =>
    have := congrArg List.length h
    rw [bitsOf_length, bitsOf_length] at this
    exact (List.length_eq_zero_iff.mp (by simpa using this.symm)).symm
  | cons b bs ih =>
    obtain _ | ⟨c, cs⟩ := cs
    · have := congrArg List.length h
      rw [bitsOf_length, bitsOf_length] at this
      simp at this
    · rw [bitsOf, bitsOf, List.flatMap_cons, List.flatMap_cons] at h
      obtain ⟨hbyte, hrest⟩ := List.append_inj h rfl
      rw [ih hrest]
      congr 1
      refine BitVec.eq_of_getLsbD_eq fun i hi => ?_
      exact List.map_inj_left.mp hbyte i (by simp only [List.mem_cons, List.not_mem_nil, or_false]; omega)

/-- Settles O23: a run's own check word clears the remainder, and the difference of two runs of residue 0000h has its ones
more than 16 bits apart. -/
theorem residueTellsShortChanges : Obligations.ResidueTellsShortChanges := by
  refine ⟨checkOf_append_own, fun bs cs k hlength hne hsame hbs hcs => hne (bitsOf_injective ?_)⟩
  have hbits : (bitsOf bs).length = (bitsOf cs).length := by rw [bitsOf_length, bitsOf_length, hlength]
  have hdifference : checkBits 0#16 (List.zipWith (· ^^ ·) (bitsOf bs) (bitsOf cs)) = 0#16 := by
    have := checkBits_xor checkPreset checkPreset (bitsOf bs) (bitsOf cs) hbits
    rwa [← checkFrom_eq_checkBits, ← checkFrom_eq_checkBits, ← checkOf, ← checkOf, hbs, hcs, BitVec.xor_self, BitVec.xor_self] at this
  have hzeros := zeros_of_checkBits_eq_zero (k := k) (fun i hi hout => by
    have h₁ : i < (bitsOf bs).length := by rw [List.length_zipWith] at hi; omega
    have h₂ : i < (bitsOf cs).length := by omega
    have heq := hsame i hout
    rw [List.getElem?_eq_getElem h₁, List.getElem?_eq_getElem h₂, Option.some.injEq] at heq
    rw [List.getElem_zipWith, heq, Bool.xor_self]) hdifference
  refine List.ext_getElem hbits fun i h₁ h₂ => ?_
  have := hzeros _ (List.getElem_mem (l := List.zipWith (· ^^ ·) (bitsOf bs) (bitsOf cs)) (n := i)
    (by rw [List.length_zipWith]; omega))
  rw [List.getElem_zipWith] at this
  simpa using this

end Sys2Proof.Machine
end

section
/-!
Every write-back image is whole: composed with the sequence of a mark, and sealed with the check word of its first 30
bytes. Until the verdict nothing of an answer but T and the detail is formed.
-/
namespace Sys2Proof.Machine

/-! ### Sequences in the round list -/

theorem sequence_raisePresented {l : List RoundEntry} (h : ∀ e ∈ l, e.sequence ≤ 255) (id : Nat) :
    ∀ e ∈ raisePresented l id, e.sequence ≤ 255 := by
  intro e he
  obtain ⟨x, hx, rfl⟩ := List.mem_map.1 he
  split
  · exact h x hx
  · exact h x hx

theorem sequence_roundInsert {l : List RoundEntry} (h : ∀ e ∈ l, e.sequence ≤ 255) {x : RoundEntry} (hx : x.sequence ≤ 255) :
    ∀ e ∈ (roundInsert l x).1, e.sequence ≤ 255 := by
  unfold roundInsert
  split
  · exact sequence_raisePresented h _
  · intro e he
    change e ∈ roundAppend l { x with presented := 1 } at he
    rw [roundAppend, List.mem_append, List.mem_singleton] at he
    rcases he with he | rfl
    · split at he
      · exact h e (List.mem_of_mem_tail he)
      · exact h e he
    · exact hx

/-! ### The image of a flight -/

/-- The image of a flight as it should stand, with the check unit's slot for its check word. -/
def Flight.fits (f : Flight) (job : Option (List Byte)) : Prop :=
  f.sequence ≤ 255 ∧ match f.stage with
    | .integrity | .deny => f.unformed
    | .composing _ => f.image.isSome ∧
        ∀ img ∈ f.image, img.length = 32 ∧ imageByte img 29 ≠ 0#8 ∧ job = some (img.take 30)
    | .judged _ => ∀ img ∈ f.image, img.length = 32 ∧ imageByte img 29 ≠ 0#8 ∧ checkOf img = 0#16

/-- A job of the verdict engine in service goes on from the preset (R162). -/
def CheckUnit.presets (u : CheckUnit) : Prop :=
  ∀ w ∈ u.serving, w.owner = .verdictEngine → w.remainder = checkPreset

/-- The counter, the flight and the service of its job. -/
def State.marksSound (s : State) : Prop :=
  s.engine.counter ≤ 255 ∧ (∀ f ∈ s.engine.flight, f.fits s.check.engineJob) ∧ s.check.presets

theorem State.imagesSound_iff (s : State) : s.imagesSound ↔ s.marksSound ∧ ∀ e ∈ s.rounds, e.sequence ≤ 255 := by
  constructor
  · rintro ⟨⟨hcounter, hsequence⟩, hrounds, hpresets, hfits⟩
    exact ⟨⟨hcounter, fun f hf => ⟨hsequence f hf, hfits f hf⟩, hpresets⟩, hrounds⟩
  · rintro ⟨⟨hcounter, hfits, hpresets⟩, hrounds⟩
    exact ⟨⟨hcounter, fun f hf => (hfits f hf).1⟩, hrounds, hpresets, fun f hf => (hfits f hf).2⟩

theorem Flight.fits_of_unformed {f : Flight} (hstage : f.stage = .integrity ∨ f.stage = .deny) (h : f.unformed)
    (job : Option (List Byte)) : f.fits job := by
  refine ⟨?_, ?_⟩
  · obtain ⟨-, -, -, -, -, -, -, -, -, hsequence⟩ := h
    rw [hsequence]
    decide
  · rcases hstage with hstage | hstage <;> rw [hstage] <;> exact h

theorem Flight.unformed_of_fits {f : Flight} {job : Option (List Byte)} (h : f.fits job)
    (hstage : f.stage = .integrity ∨ f.stage = .deny) : f.unformed := by
  have h := h.2
  rcases hstage with hstage | hstage <;> rw [hstage] at h <;> exact h

/-- A verdict without an image. -/
theorem Flight.fits_of_judged {f : Flight} {v : Verdict} (hstage : f.stage = .judged v) (himage : f.image = none)
    (hsequence : f.sequence ≤ 255) (job : Option (List Byte)) : f.fits job := by
  refine ⟨hsequence, ?_⟩
  rw [hstage]
  dsimp only
  rintro img himg
  rw [himage] at himg
  cases himg

theorem imageByte_composeImage {img : List Byte} (h : img.length = 32) (rides train day minute sequence : Nat) :
    imageByte (composeImage img rides train day minute sequence) 29 = byteOf sequence := by
  simp [imageByte, composeImage, h, be16]

theorem State.cellBody_length (s : State) (n : Fin 32) : (s.cellBody n).length = 32 := Memory.readList_length ..

/-- An image under composition with a sequence from 1 to 255 (R93, R95). -/
theorem Flight.fits_of_composing {f : Flight} {v : Verdict} {img : List Byte} (hstage : f.stage = .composing v)
    (himage : f.image = some img) (hsequence : f.sequence ≤ 255) (hlength : img.length = 32)
    (hmark : imageByte img 29 ≠ 0#8) : f.fits (some (img.take 30)) := by
  refine ⟨hsequence, ?_⟩
  rw [hstage, himage]
  refine ⟨rfl, ?_⟩
  rintro _ ⟨⟩
  exact ⟨hlength, hmark, rfl⟩

theorem byteOf_ne_zero {k : Nat} (h₁ : k ≠ 0) (h₂ : k ≤ 255) : byteOf k ≠ 0#8 := by
  intro h
  have := congrArg BitVec.toNat h
  rw [byteOf_toNat] at this
  simp only [BitVec.toNat_ofNat] at this
  omega

/-- The sealed image is whole (R95, R161). -/
theorem sealImage_sound {img : List Byte} (hlength : img.length = 32) (hmark : imageByte img 29 ≠ 0#8) :
    (sealImage img (checkOf (img.take 30))).length = 32 ∧
      imageByte (sealImage img (checkOf (img.take 30))) 29 ≠ 0#8 ∧
      checkOf (sealImage img (checkOf (img.take 30))) = 0#16 := by
  refine ⟨sealImage_length hlength _, ?_, checkOf_append_own _⟩
  have : imageByte (sealImage img (checkOf (img.take 30))) 29 = imageByte img 29 := by
    simp [imageByte, sealImage, hlength]
  rwa [this]

/-! ### The steps of an inspection -/

theorem State.setFlight_fits {s : State} {f : Flight} (h : f.fits s.check.engineJob) :
    ∀ g ∈ (s.setFlight f).engine.flight, g.fits (s.setFlight f).check.engineJob := by
  rintro _ ⟨⟩
  exact h

/-- A verdict given with no image formed. -/
theorem State.setFlight_judge_fits (s : State) {f : Flight} (v : Verdict) (detail : Byte) (himage : f.image = none)
    (hsequence : f.sequence ≤ 255) :
    ∀ g ∈ (s.setFlight (f.judge v detail)).engine.flight, g.fits (s.setFlight (f.judge v detail)).check.engineJob :=
  State.setFlight_fits (Flight.fits_of_judged (f.judge_stage v detail) himage hsequence _)

/-- What the take asks for and forms (R15 to R20). -/
theorem State.beginInspection_fits (s : State) (n : Fin 32) :
    ∀ f ∈ (s.beginInspection n).engine.flight, f.fits (s.beginInspection n).check.engineJob := by
  have fresh : (Flight.fresh n s.snapshot).unformed := ⟨rfl, rfl, rfl, rfl, rfl, rfl, rfl, rfl, rfl, rfl⟩
  unfold State.beginInspection
  dsimp only
  split
  · exact s.setFlight_judge_fits _ _ rfl (Nat.zero_le _)
  · split
    · exact s.setFlight_judge_fits _ _ rfl (Nat.zero_le _)
    · split
      · exact s.setFlight_judge_fits _ _ rfl (Nat.zero_le _)
      · rintro _ ⟨⟩
        exact Flight.fits_of_unformed (.inl rfl) fresh (some (s.cellBody n))

/-- The image check forms nothing of an answer (R20 to R22). -/
theorem State.afterImageCheck_fits (s : State) {f : Flight} (hf : f.unformed) (residue : Word) :
    ∀ g ∈ (s.afterImageCheck f residue).engine.flight, g.fits (s.afterImageCheck f residue).check.engineJob := by
  obtain ⟨h₁, h₂, h₃, h₄, h₅, h₆, h₇, himage, h₉, hsequence⟩ := hf
  have hbound : f.sequence ≤ 255 := by rw [hsequence]; decide
  unfold State.afterImageCheck
  dsimp only
  split
  · exact s.setFlight_judge_fits _ _ himage hbound
  · split
    · exact s.setFlight_judge_fits _ _ himage hbound
    · split
      · exact State.setFlight_judge_fits (f := { f with sane := true }) s _ _ himage hbound
      next e he =>
        exact State.setFlight_fits (Flight.fits_of_unformed
          (f := { f with sane := true, slices := some (e.sliceA, e.sliceB), stage := .deny }) (.inr rfl) ⟨h₁, h₂, h₃, h₄, h₅, h₆, h₇, himage, h₉, hsequence⟩ _)

/-- The check word seals the image under composition (R95). -/
theorem State.engineResult_fits {s : State} {run : List Byte} (hs : ∀ f ∈ s.engine.flight, f.fits (some run)) :
    ∀ g ∈ (s.engineResult (checkOf run)).engine.flight, g.fits (s.engineResult (checkOf run)).check.engineJob := by
  unfold State.engineResult
  cases hflight : s.engine.flight with
  | none =>
    intro g hg
    rw [hflight] at hg
    cases hg
  | some f =>
    have hf := hs f hflight
    dsimp only
    cases hstage : f.stage with
    | integrity => exact s.afterImageCheck_fits (Flight.unformed_of_fits hf (.inl hstage)) _
    | deny =>
      intro g hg
      obtain rfl : f = g := by rwa [hflight, Option.mem_some_iff] at hg
      exact Flight.fits_of_unformed (.inr hstage) (Flight.unformed_of_fits hf (.inr hstage)) _
    | judged v =>
      intro g hg
      obtain rfl : f = g := by rwa [hflight, Option.mem_some_iff] at hg
      obtain ⟨hsequence, hf⟩ := hf
      refine ⟨hsequence, ?_⟩
      rw [hstage] at hf ⊢
      exact hf
    | composing v =>
      rintro _ ⟨⟩
      obtain ⟨hsequence, hf⟩ := hf
      rw [hstage] at hf
      obtain ⟨-, hf⟩ := hf
      refine ⟨hsequence, ?_⟩
      dsimp only
      intro sealed hsealed
      obtain ⟨img, himg, rfl⟩ := Option.mem_map.1 hsealed
      obtain ⟨hlength, hmark, hrun⟩ := hf img himg
      obtain rfl : run = img.take 30 := Option.some.inj hrun
      exact sealImage_sound hlength hmark

theorem nextSequence_range {k : Nat} (h : k ≤ 255) : nextSequence k ≠ 0 ∧ nextSequence k ≤ 255 := by
  unfold nextSequence
  split <;> omega

/-- A composed image carries the sequence of its flight (R93 to R98). -/
theorem State.compose_fits (s : State) {f : Flight} (v : Verdict) (m : Memory) (n : Fin 32) (u : State) (taken : Nat)
    (hsequence : f.sequence ≠ 0 ∧ f.sequence ≤ 255) (g : Flight) :
    ∀ h ∈ (s.compose f v (g.markedImage m (u.cellBody n) taken f.sequence)).engine.flight,
      h.fits (s.compose f v (g.markedImage m (u.cellBody n) taken f.sequence)).check.engineJob := by
  rintro _ ⟨⟩
  refine Flight.fits_of_composing rfl rfl hsequence.2 (composeImage_length (u.cellBody_length n) _ _ _ _ _) ?_
  rw [Flight.markedImage, imageByte_composeImage (u.cellBody_length n)]
  exact byteOf_ne_zero hsequence.1 hsequence.2

/-- The lookup's result composes an image or forms none (R22 to R30). -/
theorem State.afterDenyLookup_fits {s : State} {f : Flight} (hf : f.unformed) (hcounter : s.engine.counter ≤ 255)
    (hrounds : ∀ e ∈ s.rounds, e.sequence ≤ 255) (hit : Option DenyEntry) :
    ∀ g ∈ (s.afterDenyLookup f hit).engine.flight, g.fits (s.afterDenyLookup f hit).check.engineJob := by
  obtain ⟨-, -, -, -, -, -, -, himage, -, hsequence⟩ := hf
  have hbound : f.sequence ≤ 255 := by rw [hsequence]; decide
  unfold State.afterDenyLookup
  split
  · exact State.setFlight_judge_fits (f := { f with denyReason := _ }) s _ _ himage hbound
  unfold State.afterDenyMiss
  dsimp only
  split
  next e he =>
    split
    · exact State.setFlight_judge_fits (f := { f with presented := _ }) _ _ _ himage hbound
    · have hentry : e.sequence ≤ 255 := hrounds e (List.mem_of_find?_eq_some he)
      unfold State.repeatFound
      dsimp only
      split
      · exact State.setFlight_fits (Flight.fits_of_judged (f := { f with
          presented := _, storedAmount := _, sequence := e.sequence, detail := _, stage := .judged .repeat }) rfl himage hentry _)
      next taken hguard =>
        have hne : e.sequence ≠ 0 := by
          intro h
          rw [consumptionGuard, if_pos h] at hguard
          cases hguard
        exact State.compose_fits _ (f := { f with
          presented := raisedCount e.presented, storedAmount := e.amount, sequence := e.sequence, detail := e.verdict.code })
          _ _ _ _ _ ⟨hne, hentry⟩ _
  next =>
    obtain ⟨⟨-, -, hjudged, hjudgedSequence⟩, v, -, hv⟩ := f.judgeFresh_spec s.mem (Ticket.ofImage (s.cellBody f.cell))
    rw [himage] at hjudged
    rw [hsequence] at hjudgedSequence
    have bare (g : Flight) (hg : g.image = none) (hg' : g.sequence = 0) (hstage : g.stage = .judged v) :
        ∀ h ∈ (s.setFlight g).engine.flight, h.fits (s.setFlight g).check.engineJob :=
      State.setFlight_fits (Flight.fits_of_judged hstage hg (by rw [hg']; decide) _)
    unfold State.prepare
    split
    · split
      · exact State.compose_fits s (f := { f.judgeFresh s.mem (Ticket.ofImage (s.cellBody f.cell)) with
          sequence := nextSequence s.engine.counter, consumed := _ }) _ _ _ s _
          (nextSequence_range hcounter) _
      · exact bare _ hjudged hjudgedSequence hv
    · exact bare _ hjudged hjudgedSequence hv

/-! ### Every step -/

theorem CheckUnit.presets_choose {u : CheckUnit} (h : u.presets) : u.choose.presets := by
  intro w hw howner
  rw [CheckUnit.choose_spec] at hw
  dsimp only at hw
  split at hw
  · exact h w hw howner
  · split at hw
    · cases hw
      rfl
    · obtain ⟨j, -, rfl⟩ := Option.mem_map.1 hw
      cases howner

theorem CheckUnit.presets_of_idle {u : CheckUnit} (h : u.serving = none) : u.presets := by
  intro w hw
  rw [h] at hw
  cases hw

theorem State.marksSound_of_same {s t : State} (hs : s.marksSound) (hengine : t.engine = s.engine) (hcheck : t.check = s.check) :
    t.marksSound := by
  rwa [State.marksSound, hengine, hcheck]

theorem State.marksSound.event {t : State} (h : t.marksSound) : t.driveNote.settled.marksSound := by
  obtain ⟨hcounter, hfits, hpresets⟩ := h
  exact ⟨hcounter, fun f hf => by rw [State.settled_check, CheckUnit.choose_engineJob]; exact hfits f hf,
    CheckUnit.presets_choose hpresets⟩

theorem State.chooseCheck_marksSound {s : State} (h : s.marksSound) : s.chooseCheck.marksSound := by
  obtain ⟨hcounter, hfits, hpresets⟩ := h
  exact ⟨hcounter, fun f hf => by rw [State.chooseCheck_check, CheckUnit.choose_engineJob]; exact hfits f hf,
    CheckUnit.presets_choose hpresets⟩

/-- The same for a state that differs from a sound one in neither the engine, nor its job, nor the work in service. -/
theorem State.marksSound_of_kept {s t : State} (hs : s.marksSound) (hengine : t.engine = s.engine)
    (hjob : t.check.engineJob = s.check.engineJob) (hpresets : t.check.presets) : t.marksSound := by
  obtain ⟨hcounter, hfits, -⟩ := hs
  exact ⟨by rwa [hengine], by rwa [hengine, hjob], hpresets⟩

/-- No inspection is in flight, and the counter is in range. -/
theorem State.marksSound_of_idle {t : State} (hcounter : t.engine.counter ≤ 255) (hidle : t.engine.flight = none)
    (hpresets : t.check.presets) : t.marksSound := by
  refine ⟨hcounter, fun f hf => ?_, hpresets⟩
  rw [hidle] at hf
  cases hf

theorem State.inspect_marksSound {s : State} (hs : s.marksSound) (n : Fin 32) :
    ((s.take .inspection n).beginInspection n).marksSound := by
  obtain ⟨hcounter, -, hpresets⟩ := hs
  have hfits := (s.take .inspection n).beginInspection_fits n
  obtain ⟨f, -, -, -, -, h⟩ := (s.take .inspection n).beginInspection_spec n
  generalize ((s.take .inspection n).beginInspection n).check.engineJob = run at h
  rw [h] at hfits ⊢
  rw [State.take_inspection_eq] at hfits ⊢
  exact ⟨hcounter, hfits, hpresets⟩

theorem State.serveEngineLookup_marksSound {s : State} (hs : s.marksSound) (hrounds : ∀ e ∈ s.rounds, e.sequence ≤ 255)
    (media day : Nat) : (s.serveEngineLookup media day).marksSound := by
  obtain ⟨hcounter, hfits, hpresets⟩ := hs
  have hengine : ∀ g ∈ (s.serveEngineLookup media day).engine.flight, g.fits (s.serveEngineLookup media day).check.engineJob := by
    unfold State.serveEngineLookup
    dsimp only
    split
    next f hflight =>
      split
      next hstage =>
        exact State.afterDenyLookup_fits (s := { s with deny := { s.deny with engineLookup := none } })
          (Flight.unformed_of_fits (hfits f hflight) (.inr hstage)) hcounter hrounds _
      next => exact hfits
    next => exact hfits
  obtain ⟨f, l, run, h⟩ := s.serveEngineLookup_frame media day
  rw [h] at hengine ⊢
  exact ⟨hcounter, hengine, hpresets⟩

theorem State.endJob_marksSound {s : State} (hs : s.marksSound) : s.endJob.marksSound := by
  obtain ⟨hcounter, hfits, hpresets⟩ := id hs
  rcases s.endJob_cases with ⟨r, run, hserving, hrun, h⟩ | ⟨r, j, hserving, hj, h⟩ | h <;> rw [h]
  · obtain rfl : r = checkPreset := hpresets _ hserving rfl
    have hsealed := State.engineResult_fits (s := s.checkFreed none s.check.tableJob) (run := run) (by rw [← hrun]; exact hfits)
    rw [State.engineResult_spec] at hsealed ⊢
    exact ⟨hcounter, hsealed,
      CheckUnit.presets_choose (u := { serving := none, engineJob := _, tableJob := _ }) (CheckUnit.presets_of_idle rfl)⟩
  · obtain ⟨m, u, k, e, N, h⟩ := (s.checkFreed s.check.engineJob none).tableResult_frame (s.pieceRemainder j r)
    rw [h]
    exact State.marksSound_of_kept hs rfl (CheckUnit.choose_engineJob _)
      (CheckUnit.presets_choose (u := { serving := none, engineJob := _, tableJob := _ }) (CheckUnit.presets_of_idle rfl))
  · exact hs

theorem Run.keepsMarks {s t : State} {c : Instr} (h : Run s c t) (hs : s.marksSound)
    (hrounds : ∀ e ∈ s.rounds, e.sequence ≤ 255) : t.marksSound := by
  have same {u : State} (hengine : u.engine = s.engine) (hcheck : u.check = s.check) : u.driveNote.settled.marksSound :=
    (State.marksSound_of_same hs hengine hcheck).event
  have edited {u : State} (hengine : u.engine = s.engine) (hcheck : u.check = s.check) :
      u.chooseCheck.beginLookup.driveNote.marksSound :=
    State.chooseCheck_marksSound (State.marksSound_of_same hs hengine hcheck)
  have chosen := State.chooseCheck_marksSound hs
  cases h with
  | absent => exact hs
  | powerOn => exact (State.marksSound_of_idle (t := s.powerOn) (Nat.zero_le _) rfl (CheckUnit.presets_of_idle rfl)).event
  | @access c a data lanes hc =>
    rcases s.access_cases a data lanes with ⟨-, h⟩ | ⟨rfl, h⟩ | ⟨-, h⟩ | ⟨-, h⟩ | ⟨-, -, -, -, h⟩ <;> rw [h]
    · obtain ⟨m, q, F, N, h⟩ := s.writeMemoryWord_frame a data lanes
      exact same (by rw [h]) (by rw [h])
    · cases hw : resetWrite data lanes with
      | true =>
        obtain ⟨m, i, j, u, N, hf⟩ := State.engineReset_frame { s with notice := s.notice.control data }
        rw [State.writeEngControl_of_resetWrite _ hw, hf]
        exact State.marksSound.event (State.marksSound_of_idle (Nat.zero_le _) rfl (CheckUnit.presets_of_idle rfl))
      | false =>
        rw [State.writeEngControl_of_not_resetWrite _ hw]
        exact same rfl rfl
    · obtain ⟨m, h⟩ := s.clearEvents_frame data lanes
      exact same (by rw [h]) (by rw [h])
    · exact same rfl rfl
    · exact same rfl rfl
  | ignored => exact State.marksSound.event (t := s) hs
  | mirrorRead => exact State.marksSound.event (t := s) hs
  | clockEdge hc =>
    obtain ⟨m, k, d, F, h⟩ := s.clockEdge_frame
    exact same (by rw [h]) (by rw [h])
  | loseClock =>
    obtain ⟨m, F, h⟩ := s.loseClock_frame
    exact same (by rw [h]) (by rw [h])
  | @inspect n => exact (State.inspect_marksSound hs n).event
  | @inspectCompletion f v hflight =>
    obtain ⟨hcounter, hfits, hpresets⟩ := hs
    obtain ⟨m, r, l, F, N, h⟩ := s.completeInspection_frame f v
    rw [h]
    refine State.marksSound.event (State.marksSound_of_idle ?_ rfl hpresets)
    show (if v.marks then f.sequence else s.engine.counter) ≤ 255
    split
    · exact (hfits f hflight).1
    · exact hcounter
  | checkJobEnd =>
    have hended := State.endJob_marksSound chosen
    exact hended
  | checkPieceEnd hdue =>
    refine State.marksSound.event ?_
    unfold State.endPiece
    split
    · exact State.marksSound_of_kept chosen rfl (CheckUnit.choose_engineJob _)
        (CheckUnit.presets_choose (CheckUnit.presets_of_idle rfl))
    · exact chosen
  | engineLookup => exact (State.serveEngineLookup_marksSound hs hrounds _ _).event
  | probeLookup =>
    obtain ⟨m, u, N, h⟩ := s.serveProbe_frame _
    exact same (by rw [h]) (by rw [h])
  | @add media reason expiry hedit =>
    obtain ⟨m, u, d, F, N, h⟩ := s.applyAdd_frame media reason expiry
    exact edited (by rw [h]) (by rw [h])
  | @delete media hedit =>
    obtain ⟨m, u, d, N, h⟩ := s.applyDelete_frame media
    exact edited (by rw [h]) (by rw [h])
  | clear hedit =>
    obtain ⟨m, u, d, N, h⟩ := s.applyClear_frame
    exact edited (by rw [h]) (by rw [h])
  | sweepStep =>
    obtain ⟨m, h⟩ := s.applySweepStep_frame
    exact same (by rw [h]) (by rw [h])
  | @depart n =>
    obtain ⟨m, k, N, h⟩ := s.serveDepart_frame n
    exact same (by rw [h]) (by rw [h])
  | @arrive n =>
    obtain ⟨m, k, p, r, cap, v, l, F, N, h⟩ := s.serveArrive_frame n
    exact same (by rw [h]) (by rw [h])
  | @pass n =>
    obtain ⟨m, p, r, cap, l, F, N, h⟩ := s.servePass_frame n
    exact same (by rw [h]) (by rw [h])
  | @set n =>
    obtain ⟨m, k, p, v, F, N, h⟩ := s.serveSet_frame n
    exact same (by rw [h]) (by rw [h])
  | @badEvent n =>
    obtain ⟨m, N, h⟩ := s.serveBadEvent_frame n
    exact same (by rw [h]) (by rw [h])
  | @clockSet n =>
    obtain ⟨m, k, d, F, N, h⟩ := s.serveClockSet_frame n
    exact same (by rw [h]) (by rw [h])
  | @serviceOpen n =>
    obtain ⟨m, u, j, N, h⟩ := s.chooseCheck.takeOpen_frame n
    rw [h]
    obtain ⟨-, -, hpresets⟩ := id chosen
    exact State.marksSound_of_kept chosen rfl rfl hpresets
  | @serviceOpenCompletion n table entry hheld =>
    obtain ⟨-, hfits, hpresets⟩ := hs
    obtain ⟨m, F, N, h⟩ := s.completeOpen_frame n
    rw [h]
    exact State.marksSound.event ⟨Nat.zero_le _, hfits, hpresets⟩
  | @serviceClose n hhead =>
    obtain ⟨m, j, u, l, F, N, h⟩ := s.takeClose_frame n
    exact same (by rw [h]) (by rw [h])
  | @serviceCloseCompletion n hheld =>
    obtain ⟨m, F, N, h⟩ := s.completeClose_frame n
    exact same (by rw [h]) (by rw [h])
  | @denyBatch n =>
    obtain ⟨m, u, j, N, h⟩ := s.chooseCheck.takeBatch_frame n
    rw [h]
    obtain ⟨-, -, hpresets⟩ := id chosen
    exact State.marksSound_of_kept chosen rfl rfl hpresets
  | @denyProbe n hhead =>
    obtain ⟨m, N, h⟩ := s.takeProbe_frame n
    exact same (by rw [h]) (by rw [h])

theorem Run.keepsSequences {s t : State} {c : Instr} (h : Run s c t) (hs : s.marksSound)
    (hrounds : ∀ e ∈ s.rounds, e.sequence ≤ 255) : ∀ e ∈ t.rounds, e.sequence ≤ 255 := by
  rcases h.rounds with h | h | ⟨id, h⟩ | ⟨f, x, hflight, hx, h⟩ <;> rw [h]
  · exact hrounds
  · simp
  · exact sequence_raisePresented hrounds id
  · exact sequence_roundInsert hrounds (hx ▸ (hs.2.1 f hflight).1)

/-- Settles O56, by `Run.keepsMarks` and `Run.keepsSequences`. -/
theorem stepKeepsImagesSound : Obligations.StepKeepsImagesSound := by
  intro s t hs h
  refine step_induction (p := fun s t => s.imagesSound → t.imagesSound) (fun s hs => ?_) (fun s rest c t hr hs => ?_) h hs
  · obtain ⟨hmarks, hrounds⟩ := s.imagesSound_iff.1 hs
    exact s.idle.imagesSound_iff.2 ⟨State.chooseCheck_marksSound hmarks, hrounds⟩
  · obtain ⟨hmarks, hrounds⟩ := s.imagesSound_iff.1 hs
    exact t.imagesSound_iff.2 ⟨hr.keepsMarks hmarks hrounds, hr.keepsSequences hmarks hrounds⟩

end Sys2Proof.Machine
end

section
/-!
The resets and the control register: what an engine reset leaves of each block, the ABORTED answers and the rebuilt queues
(R185, R186), and the fields of ENG_CONTROL and EVENT_FLAGS (R188, R196).
-/
namespace Sys2Proof.Machine

/-! ### The fields of ENG_CONTROL -/

/-- The value 3 leaves the mode (R196). -/
theorem NoticeUnit.control_mode_of_three (u : NoticeUnit) {data : Word} (h : data.extractLsb' 1 2 = 3#2) :
    (u.control data).mode = u.mode := by
  simp only [NoticeUnit.control, h]
  rfl

/-- Another value is the code of the mode taken (R196). -/
theorem NoticeUnit.control_mode_code (u : NoticeUnit) {data : Word} (h : data.extractLsb' 1 2 ≠ 3#2) :
    (u.control data).mode.code = (data.extractLsb' 1 2).toNat := by
  simp only [NoticeUnit.control]
  generalize data.extractLsb' 1 2 = v at h ⊢
  obtain rfl | rfl | rfl : v = 0#2 ∨ v = 1#2 ∨ v = 2#2 := by
    revert v
    decide
  all_goals rfl

/-- A change of the mode or a REARM of 1 arms the latch (R191, R196). -/
theorem NoticeUnit.control_latch (u : NoticeUnit) (data : Word) : (u.control data).latch =
    if (u.control data).mode = u.mode ∧ data.getLsbD 3 = false then u.latch else none := by
  show (if (u.control data).mode ≠ u.mode ∨ data.getLsbD 3 = true then none else u.latch) = _
  generalize (u.control data).mode = mode
  by_cases hmode : mode = u.mode <;> cases data.getLsbD 3 <;> simp [hmode]

/-! ### What an engine reset leaves of the blocks -/

theorem exec_engineReset_of_reset (s : State) {data : Word} {lanes : Lanes} (hlow : lanes.low = true)
    (hbit : data.getLsbD 0 = true) : exec (.engineReset data lanes) s =
      .next (State.engineReset { s with notice := s.notice.control data }).driveNote.settled := by
  rw [exec_engineReset, State.writeEngControl_of_resetWrite _ (by simp [resetWrite, hlow, hbit])]
  rfl

/-- Settles O5, by the frame of an engine reset. -/
theorem engineResetResetsBlocks : Obligations.EngineResetResetsBlocks := by
  intro s data lanes hlow hbit
  refine ⟨_, exec_engineReset_of_reset s hlow hbit, ?_⟩
  obtain ⟨m, i, j, u, N, h⟩ := State.engineReset_frame { s with notice := s.notice.control data }
  rw [h]
  exact ⟨rfl, rfl, rfl, rfl, rfl, rfl, s.notice.control_mode_of_three, s.notice.control_mode_code⟩

/-! ### What the end of an event keeps -/

theorem State.answers.event {t : State} {n : Fin 32} {answer : List Byte} (h : t.answers n answer) :
    t.driveNote.settled.answers n answer := h

theorem State.sameBytesBut.event {s t : State} {p : Nat → Prop} (h : s.sameBytesBut t p) :
    s.sameBytesBut t.driveNote.settled p := h

/-! ### The ABORTED answers -/

theorem State.answers_congr {s t : State} {n : Fin 32} {answer : List Byte} (h : s.answers n answer)
    (hmem : ∀ a, inCell n a → t.mem.read a = s.mem.read a) : t.answers n answer := by
  obtain ⟨hdone, hbytes⟩ := h
  refine ⟨?_, fun i hi => ?_⟩
  · rwa [State.cellState, hmem _ ⟨le_rfl, by simp [Config.cellSize]⟩]
  · rw [State.cellByte, hmem _ ⟨by omega, by simp only [Config.answerOffset, Config.answerSize, Config.cellSize] at *; omega⟩]
    exact hbytes i hi

/-- An address lies in one cell only. -/
theorem inCell_unique {n m : Fin 32} {a : Nat} (hn : inCell n a) (hm : inCell m a) : n = m := by
  rw [← cellOf_of_inCell hn, cellOf_of_inCell hm]

theorem State.abortCell_sameBytesBut (s : State) (n : Fin 32) :
    s.sameBytesBut (s.abortCell n) fun a => s.cellState n = .taken ∧ (a = cellBase n ∨ inAnswer n a) := by
  unfold State.abortCell
  split
  next htaken =>
    refine (s.post_sameBytesBut n _ none).mono fun a ha => ⟨htaken, ?_⟩
    simpa using ha
  next => exact .of_mem rfl

/-- An ABORTED answer leaves the other cells alone. -/
theorem State.abortCell_read_of_ne (s : State) {n m : Fin 32} (hnm : n ≠ m) {a : Nat} (ha : inCell m a) :
    (s.abortCell n).mem.read a = s.mem.read a := by
  refine s.abortCell_sameBytesBut n a fun ⟨_, h⟩ => hnm (inCell_unique ?_ ha)
  simp only [inCell, inAnswer, Config.answerOffset, Config.cellSize] at h ⊢
  omega

theorem State.abortCell_cellState_of_ne (s : State) {n m : Fin 32} (hnm : n ≠ m) :
    (s.abortCell n).cellState m = s.cellState m := by
  rw [State.cellState, State.cellState, s.abortCell_read_of_ne hnm ⟨le_rfl, by simp [Config.cellSize]⟩]

theorem State.abortedAnswer_abortCell (s : State) (n m : Fin 32) : (s.abortCell n).abortedAnswer m = s.abortedAnswer m := by
  obtain ⟨mem, N, h⟩ := s.abortCell_frame n
  rw [h]
  rfl

theorem State.abortCell_memoryCanonical {s : State} (hs : s.memoryCanonical) (n : Fin 32) : (s.abortCell n).memoryCanonical := by
  unfold State.abortCell
  split
  · exact State.post_memoryCanonical hs n _ none
  · exact hs

/-- A cell already answered keeps its answer. -/
theorem State.foldl_abortCell_answers_of_done (cells : List (Fin 32)) {s : State} {m : Fin 32} {answer : List Byte}
    (h : s.answers m answer) : (cells.foldl State.abortCell s).answers m answer := by
  induction cells generalizing s with
  | nil => exact h
  | cons n cells ih =>
    refine ih ?_
    by_cases hnm : n = m
    · subst hnm
      rw [State.abortCell, if_neg (by rw [h.1]; decide)]
      exact h
    · exact State.answers_congr h fun a ha => s.abortCell_read_of_ne hnm ha

/-- A pass over some cells answers each TAKEN one of them ABORTED (R185). -/
theorem State.foldl_abortCell_answers (cells : List (Fin 32)) {s : State} (hs : s.memoryCanonical) {m : Fin 32}
    (hm : m ∈ cells) (htaken : s.cellState m = .taken) :
    (cells.foldl State.abortCell s).answers m (s.abortedAnswer m) := by
  induction cells generalizing s with
  | nil => cases hm
  | cons n cells ih =>
    rw [List.foldl_cons]
    by_cases hnm : n = m
    · subst hnm
      refine State.foldl_abortCell_answers_of_done cells ?_
      rw [State.abortCell, if_pos htaken]
      exact State.post_answers hs n _ none
    · rw [← s.abortedAnswer_abortCell n m]
      exact ih (State.abortCell_memoryCanonical hs n) ((List.mem_cons.1 hm).resolve_left (Ne.symm hnm))
        (by rwa [s.abortCell_cellState_of_ne hnm])

theorem State.foldl_abortCell_sameBytesBut (cells : List (Fin 32)) (s : State) :
    s.sameBytesBut (cells.foldl State.abortCell s) fun a =>
      ∃ n, s.cellState n = .taken ∧ (a = cellBase n ∨ inAnswer n a) := by
  induction cells generalizing s with
  | nil => exact .of_mem rfl
  | cons n cells ih =>
    refine ((s.abortCell_sameBytesBut n).mono fun a ha => ⟨n, ha⟩).trans ((ih (s.abortCell n)).mono ?_)
    rintro a ⟨m, htaken, ha⟩
    refine ⟨m, ?_, ha⟩
    by_cases hnm : n = m
    · subst hnm
      by_contra hne
      rw [State.abortCell, if_neg hne] at htaken
      exact hne htaken
    · rwa [s.abortCell_cellState_of_ne hnm] at htaken

theorem State.abortTaken_sameBytesBut (s : State) : s.sameBytesBut s.abortTaken fun a =>
    ∃ n, s.cellState n = .taken ∧ (a = cellBase n ∨ inAnswer n a) := by
  unfold State.abortTaken
  exact State.foldl_abortCell_sameBytesBut _ s

theorem State.abortTaken_answers {s : State} (hs : s.memoryCanonical) {n : Fin 32} (htaken : s.cellState n = .taken) :
    s.abortTaken.answers n (s.abortedAnswer n) := by
  unfold State.abortTaken
  exact State.foldl_abortCell_answers _ hs (List.mem_finRange n) htaken

/-- After the ABORTED answers an engine reset writes the mirror alone. -/
theorem State.engineReset_mirror (s : State) : s.abortTaken.sameBytesBut s.engineReset inMirror := by
  unfold State.engineReset
  generalize s.abortTaken = u
  exact State.rewriteMirror_sameBytesBut u.rebuildQueues.resetBlocks

theorem State.engineReset_sameBytesBut (s : State) : s.sameBytesBut s.engineReset fun a =>
    inMirror a ∨ ∃ n : Fin 32, s.cellState n = .taken ∧ (a = cellBase n ∨ inAnswer n a) :=
  (s.abortTaken_sameBytesBut.mono fun _ => .inr).trans (s.engineReset_mirror.mono fun _ => .inl)

theorem not_inMirror_of_inCell {n : Fin 32} {a : Nat} (h : inCell n a) : ¬ inMirror a := by
  have := cellBase_le n
  simp only [inCell, inMirror, Config.cellSize, Config.mirrorBase] at *
  omega

theorem State.engineReset_answers {s : State} (hs : s.memoryCanonical) {n : Fin 32} (htaken : s.cellState n = .taken) :
    s.engineReset.answers n (s.abortedAnswer n) :=
  State.answers_congr (State.abortTaken_answers hs htaken) fun a ha => s.engineReset_mirror a (not_inMirror_of_inCell ha)

theorem State.engineReset_queue (s : State) (q : QueueId) : s.engineReset.intake.queue q = s.abortTaken.readyCells q :=
  State.resetBlocks_queue s.abortTaken q

theorem State.readyCells_pairwise (s : State) (q : QueueId) : (s.readyCells q).Pairwise (· < ·) :=
  (List.pairwise_lt_finRange 32).filter _

theorem State.abortTaken_kindOf (s : State) (n : Fin 32) : s.abortTaken.kindOf n = s.kindOf n := by
  obtain ⟨m, N, h⟩ := s.abortTaken_frame
  rw [h]
  rfl

/-- The rebuilt queues hold the cells that were READY (R186). -/
theorem State.mem_engineReset_queue {s : State} (hs : s.memoryCanonical) (q : QueueId) (n : Fin 32) :
    n ∈ s.engineReset.intake.queue q ↔ s.cellState n = .ready ∧ (s.kindOf n).map RequestKind.queue = some q := by
  rw [State.engineReset_queue, State.mem_readyCells, State.abortTaken_kindOf, State.abortTaken_cellState hs]
  split
  next htaken => simp [htaken]
  next => rfl

theorem State.abortedAnswer_of_ne {s : State} {n : Fin 32} (h : s.kindOf n ≠ some .denyBatch) :
    s.abortedAnswer n = [0x42#8] := by
  rw [State.abortedAnswer, if_neg h]

/-- A batch in hand answers with the records applied so far (Table 10-4). -/
theorem State.abortedAnswer_of_batch {s : State} {n : Fin 32} {offset count applied : Nat} {applying : Bool}
    (h : s.kindOf n = some .denyBatch) (hheld : s.table.held = some (n, .denyBatch offset count applied applying)) :
    s.abortedAnswer n = [0x42#8, 0#8] ++ le16 applied ++ [0xFF#8, 0xFF#8] ++ le16 s.deny.list.length := by
  have happlied : s.table.appliedIn n = applied := by simp [TableUnit.appliedIn, hheld]
  rw [State.abortedAnswer, if_pos h, State.batchAnswer, happlied]
  rfl

/-- Settles O6: the ABORTED answers cell by cell, and the queues rebuilt from what was READY. -/
theorem engineResetAnswersCellsAndRebuildsQueues : Obligations.EngineResetAnswersCellsAndRebuildsQueues := by
  intro s data lanes hs hlow hbit
  let u : State := { s with notice := s.notice.control data }
  refine ⟨_, exec_engineReset_of_reset s hlow hbit, fun n htaken hkind => ?_, fun n offset count applied applying htaken hkind hheld => ?_,
    fun q => ⟨?_, fun n => ?_⟩, ?_⟩
  · rw [← State.abortedAnswer_of_ne (s := u) hkind]
    exact (State.engineReset_answers (s := u) hs htaken).event
  · rw [← State.abortedAnswer_of_batch (s := u) hkind hheld]
    exact (State.engineReset_answers (s := u) hs htaken).event
  · rw [State.settled_intake, State.driveNote_intake, State.engineReset_queue]
    exact State.readyCells_pairwise _ q
  · rw [State.settled_intake, State.driveNote_intake]
    exact State.mem_engineReset_queue (s := u) hs q n
  · exact (State.engineReset_sameBytesBut u).event

/-! ### A write to ENG_CONTROL without a reset -/

theorem exec_of_controlCommand (s : State) {c : Instr} {data : Word} {lanes : Lanes}
    (hc : c = .answerMode data lanes ∨ c = .watermark data lanes ∨ c = .journeyFirst data lanes ∨ c = .rearm data lanes) :
    exec c s = (s.writeEngControl data lanes).event := by
  rcases hc with rfl | rfl | rfl | rfl <;> rfl

theorem controlFields_word (data : Word) : data &&& 0x00F0#16 =
    ((data.extractLsb' 4 3).setWidth 16 <<< 4) ||| ((BitVec.ofBool (data.getLsbD 7)).setWidth 16 <<< 7) := by
  refine BitVec.eq_of_getLsbD_eq fun i hi => ?_
  interval_cases i <;> simp

/-- ENG_CONTROL reads the fields as stored (R196). -/
theorem State.engControl_eq (s : State) {data : Word} (hwatermark : s.notice.watermark = data.extractLsb' 4 3)
    (hfirst : s.notice.journeyFirst = data.getLsbD 7) :
    s.engControl = (data &&& 0x00F0#16) ||| BitVec.ofNat 16 (2 * s.notice.mode.code) := by
  rw [controlFields_word, State.engControl, hwatermark, hfirst]
  generalize data.extractLsb' 4 3 = w
  generalize data.getLsbD 7 = b
  generalize s.notice.mode = mode
  revert w b
  cases mode <;> decide

/-- Settles O7: the write is the control fields' alone. -/
theorem controlWriteTakesFields : Obligations.ControlWriteTakesFields := by
  intro s data lanes c hbit hc
  rw [exec_of_controlCommand s hc]
  refine ⟨fun hlow => ?_, fun hlow => ?_⟩
  · have hwrite : s.writeEngControl data lanes = { s with notice := s.notice.control data } := by
      rw [State.writeEngControl, if_pos hlow]
      simp only [hbit, Bool.false_eq_true, if_false]
    rw [hwrite]
    refine ⟨_, (s.notice.control data).mode, rfl, s.notice.control_mode_of_three, s.notice.control_mode_code, ?_,
      State.engControl_eq _ rfl rfl⟩
    rw [← s.notice.control_latch data]
    rfl
  · rw [State.writeEngControl, if_neg (by simp [hlow])]
    rfl

/-! ### A write to EVENT_FLAGS -/

/-- Settles O9: the flags bit by bit, and the capture with FIRST_FAULT. -/
theorem eventFlagsClearWrittenOnes : Obligations.EventFlagsClearWrittenOnes := by
  intro s data lanes
  have hcapture : (laneFlags data lanes).getLsbD 8 = (lanes.high && data.getLsbD 8) := by
    exact (getLsbD_laneFlags data lanes 8).trans (Bool.and_comm _ _)
  have hbytes : s.sameBytesBut (s.clearEvents data lanes) fun a => inMirror a ∧ lanes.high = true ∧ data.getLsbD 8 = true := by
    by_cases hrearm : (laneFlags data lanes).getLsbD 8 = true
    · rw [hcapture, Bool.and_eq_true] at hrearm
      exact (s.clearEvents_sameBytesBut data lanes).mono fun a ha => ⟨ha, hrearm⟩
    · rw [State.clearEvents, if_neg hrearm]
      exact .of_mem rfl
  obtain ⟨m, h⟩ := s.clearEvents_frame data lanes
  refine ⟨_, rfl, ?_, fun i => ?_, hbytes.event⟩
  · rw [h, hcapture]
    cases lanes.high && data.getLsbD 8 <;> rfl
  · rw [h]
    show (s.notice.flags &&& ~~~ laneFlags data lanes).getLsbD i = _
    rw [BitVec.getLsbD_and, BitVec.getLsbD_not, getLsbD_laneFlags, laneSelected]
    simp [i.isLt, Bool.and_comm]

end Sys2Proof.Machine
end

section
/-!
The notice unit and the host reads: NOTICE by the rank of the causes (R190 to R194), the registers field by field (R195,
R196), and memory and the mirror with its hold copy (R141).
-/
namespace Sys2Proof.Machine

/-! ### The rank of the causes -/

theorem State.mem_rankedCauses (s : State) (c : Nat × Option Nat) : c ∈ s.rankedCauses ↔
    c = (4, s.faultCause) ∨ c = (1, s.answerCause) ∨ c = (3, s.journeyCause) ∨ c = (2, s.maintCause) := by
  unfold State.rankedCauses
  split <;> simp only [List.mem_cons, List.not_mem_nil, or_false]
  tauto

theorem State.anyPending_iff (s : State) : s.anyPending = true ↔ ∃ c ∈ s.rankedCauses, c.2.isSome = true := by
  simp only [State.mem_rankedCauses, State.anyPending, Bool.or_eq_true, or_and_right, exists_or, exists_eq_left, or_assoc]

/-- A pending cause shows a code from 1 to 4, and none shows 0 (R194). -/
theorem State.topCause_code (s : State) :
    s.anyPending = false ∧ s.topCause = (0, 0) ∨ s.anyPending = true ∧ 1 ≤ s.topCause.1 ∧ s.topCause.1 ≤ 4 := by
  rw [State.topCause, ← Bool.not_eq_true, State.anyPending_iff]
  cases htop : s.rankedCauses.findSome? fun c => c.2.map fun i => (c.1, i) with
  | none =>
    refine .inl ⟨fun ⟨c, hc, hpending⟩ => ?_, rfl⟩
    have hnone := List.findSome?_eq_none_iff.mp htop c hc
    rw [Option.map_eq_none_iff.mp hnone] at hpending
    cases hpending
  | some top =>
    obtain ⟨c, hc, hshown⟩ := List.exists_of_findSome?_eq_some htop
    obtain ⟨i, hi, rfl⟩ := Option.map_eq_some_iff.mp hshown
    have hcode : 1 ≤ c.1 ∧ c.1 ≤ 4 := by
      rcases (s.mem_rankedCauses c).mp hc with rfl | rfl | rfl | rfl <;> simp
    exact .inr ⟨⟨c, hc, by rw [hi]; rfl⟩, hcode⟩

theorem State.topCause_of_fault {s : State} {i : Nat} (h : s.faultCause = some i) : s.topCause = (4, i) := by
  simp only [State.topCause, State.rankedCauses, h]
  split <;> rfl

/-- ANSWER ranks before JOURNEY unless JOURNEY_FIRST says otherwise (R194). -/
theorem State.topCause_of_answer {s : State} {i : Nat} (hfault : s.faultCause = none) (h : s.answerCause = some i)
    (hfirst : s.notice.journeyFirst = false ∨ s.journeyCause = none) : s.topCause = (1, i) := by
  simp only [State.topCause, State.rankedCauses, hfault, h]
  split
  next hset =>
    rw [hfirst.resolve_left (by simp [hset])]
    rfl
  next => rfl

theorem State.topCause_of_journey {s : State} {i : Nat} (hfault : s.faultCause = none) (h : s.journeyCause = some i)
    (hfirst : s.notice.journeyFirst = true ∨ s.answerCause = none) : s.topCause = (3, i) := by
  simp only [State.topCause, State.rankedCauses, hfault, h]
  split
  next => rfl
  next hclear =>
    rw [hfirst.resolve_left hclear]
    rfl

theorem State.topCause_of_maint {s : State} {i : Nat} (hfault : s.faultCause = none) (hanswer : s.answerCause = none)
    (hjourney : s.journeyCause = none) (h : s.maintCause = some i) : s.topCause = (2, i) := by
  simp only [State.topCause, State.rankedCauses, hfault, hanswer, hjourney, h]
  split <;> rfl

theorem State.noticeWord_eq_zero_iff (s : State) : s.noticeWord = 0#16 ↔ s.anyPending = false := by
  rw [State.noticeWord, ← BitVec.toNat_inj, BitVec.toNat_ofNat]
  rcases s.topCause_code with ⟨hpending, htop⟩ | ⟨hpending, hlow, hhigh⟩
  · simp [hpending, htop]
  · have : (s.topCause.1 + 256 * s.topCause.2) % 2 ^ 16 ≠ 0 := by omega
    simpa [hpending] using this

/-- The code in the low byte and the index in the high byte (R194). -/
theorem State.noticeWord_toNat {s : State} (h : s.topCause.2 ≤ 255) :
    s.noticeWord.toNat = s.topCause.1 + 256 * s.topCause.2 := by
  have hcode : s.topCause.1 ≤ 4 := by
    rcases s.topCause_code with ⟨-, htop⟩ | ⟨-, -, hhigh⟩
    · simp [htop]
    · exact hhigh
  rw [State.noticeWord, BitVec.toNat_ofNat]
  exact Nat.mod_eq_of_lt (by omega)

/-! ### The causes -/

/-- In a rising list the first element that qualifies is the least (R190, R193). -/
theorem find?_eq_some_iff_least {α : Type} [LinearOrder α] {l : List α} (hl : l.Pairwise (· < ·)) (p : α → Bool) (a : α) :
    l.find? p = some a ↔ (a ∈ l ∧ p a = true) ∧ ∀ b ∈ l, b < a → p b = false := by
  induction l with
  | nil => simp
  | cons x l ih =>
    obtain ⟨hx, hl⟩ := List.pairwise_cons.1 hl
    rw [List.find?_cons]
    cases hp : p x with
    | true =>
      simp only [Option.some.injEq]
      constructor
      · rintro rfl
        refine ⟨⟨List.mem_cons_self, hp⟩, fun b hb hlt => ?_⟩
        rcases List.mem_cons.1 hb with rfl | hb
        · exact absurd hlt (lt_irrefl _)
        · exact absurd (hx b hb) hlt.not_gt
      · rintro ⟨⟨ha, -⟩, hleast⟩
        rcases List.mem_cons.1 ha with rfl | ha
        · rfl
        · rw [hleast x List.mem_cons_self (hx a ha)] at hp
          cases hp
    | false =>
      rw [ih hl]
      constructor
      · rintro ⟨⟨ha, hpa⟩, hleast⟩
        refine ⟨⟨List.mem_cons_of_mem _ ha, hpa⟩, fun b hb hlt => ?_⟩
        rcases List.mem_cons.1 hb with rfl | hb
        · exact hp
        · exact hleast b hb hlt
      · rintro ⟨⟨ha, hpa⟩, hleast⟩
        rcases List.mem_cons.1 ha with rfl | ha
        · rw [hp] at hpa
          cases hpa
        · exact ⟨⟨ha, hpa⟩, fun b hb hlt => hleast b (List.mem_cons_of_mem _ hb) hlt⟩

theorem State.faultCause_eq_some_iff (s : State) (i : Nat) : s.faultCause = some i ↔
    (4 ≤ i ∧ i ≤ 8 ∧ s.notice.flags.getLsbD i ∧ s.notice.enable.getLsbD i) ∧
      ∀ j, 4 ≤ j → j < i → ¬ (s.notice.flags.getLsbD j ∧ s.notice.enable.getLsbD j) := by
  rw [State.faultCause, find?_eq_some_iff_least (by decide)]
  simp only [mem_faultNumbers, Bool.and_eq_true, Bool.and_eq_false_iff, not_and_or, Bool.not_eq_true]
  constructor
  · rintro ⟨⟨⟨h₁, h₂⟩, hset⟩, hleast⟩
    exact ⟨⟨h₁, by omega, hset⟩, fun j hj hlt => hleast j ⟨hj, by omega⟩ hlt⟩
  · rintro ⟨⟨h₁, h₂, hset⟩, hleast⟩
    exact ⟨⟨⟨h₁, by omega⟩, hset⟩, fun j hj hlt => hleast j hj.1 hlt⟩

theorem State.journeyCause_eq_some_iff (s : State) (i : Nat) : s.journeyCause = some i ↔
    (∃ f ∈ [0, 1, 2, 3], s.notice.flags.getLsbD f ∧ s.notice.enable.getLsbD f) ∧
      i = if s.journey.kind = .nowhere then 0 else s.journey.stop := by
  have hset : (∃ f ∈ [0, 1, 2, 3], s.notice.flags.getLsbD f ∧ s.notice.enable.getLsbD f) ↔ s.journeyCause.isSome = true := by
    rw [State.journeyCause_isSome_iff, Fin.exists_iff]
    constructor
    · rintro ⟨f, hf, h⟩
      simp only [List.mem_cons, List.not_mem_nil, or_false] at hf
      exact ⟨f, by omega, show f < 4 by omega, h⟩
    · rintro ⟨f, hlt, hf, h⟩
      have hf : f < 4 := hf
      refine ⟨f, ?_, h⟩
      simp only [List.mem_cons, List.not_mem_nil, or_false]
      omega
  rw [hset]
  unfold State.journeyCause
  split
  · simp
  · simp [eq_comm]

/-- A count of the cells is positive exactly when one is counted. -/
theorem State.countCells_eq_zero_iff (s : State) (c : CellState) (p : Option RequestKind → Bool) :
    s.countCells c p = 0 ↔ ∀ n : Fin 32, ¬ (s.cellState n = c ∧ p (s.kindOf n) = true) := by
  simp [State.countCells, List.countP_eq_zero]

theorem State.countCells_le (s : State) (c : CellState) (p : Option RequestKind → Bool) : s.countCells c p ≤ 32 := by
  have := List.countP_le_length (p := fun n => decide (s.cellState n = c) && p (s.kindOf n)) (l := List.finRange 32)
  rwa [List.length_finRange] at this

theorem State.lowestInspectDone_eq_some_iff (s : State) (n : Fin 32) : s.lowestInspectDone = some n ↔
    (s.kindOf n = some .inspect ∧ s.cellState n = .done) ∧
      ∀ m : Fin 32, m < n → ¬ (s.kindOf m = some .inspect ∧ s.cellState m = .done) := by
  rw [State.lowestInspectDone, find?_eq_some_iff_least (List.pairwise_lt_finRange 32)]
  simp

theorem State.lowestInspectDone_eq_none_iff (s : State) : s.lowestInspectDone = none ↔
    ∀ m : Fin 32, ¬ (s.kindOf m = some .inspect ∧ s.cellState m = .done) := by
  simp [State.lowestInspectDone]

/-- In EACH mode ANSWER is pending with the lowest DONE INSPECT cell (R190). -/
theorem State.answerCause_of_each {s : State} (hs : s.countsExact) (hmode : s.notice.mode = .each) :
    s.answerCause = s.lowestInspectDone.map Fin.val := by
  obtain ⟨-, -, hinspect, -⟩ := hs
  rw [State.answerCause, hmode]
  dsimp only
  split
  next hzero =>
    rw [hinspect, State.countCells_eq_zero_iff] at hzero
    rw [s.lowestInspectDone_eq_none_iff.2 fun m h => hzero m ⟨h.2, by simp [h.1]⟩]
    rfl
  next => rfl

/-- Settles O10: the rank by the three orders, each cause by its own equation. -/
theorem noticeShowsHighestCause : Obligations.NoticeShowsHighestCause := by
  refine ⟨fun s => ⟨fun i => State.topCause_of_fault, fun i => State.topCause_of_answer, fun i => State.topCause_of_journey,
    fun i => State.topCause_of_maint, fun h => ?_, rfl, State.noticeWord_toNat, s.noticeWord_eq_zero_iff, fun hnote => ?_⟩,
    fun s hs => ⟨fun hmode => ?_, fun hmode => ?_, fun hmode => ⟨fun n => ?_, ?_⟩, ?_, fun i hi => ?_, s.journeyCause_eq_some_iff,
      s.faultCause_eq_some_iff⟩⟩
  · rcases s.topCause_code with ⟨-, htop⟩ | ⟨hpending, -⟩
    · exact htop
    · rw [h] at hpending
      cases hpending
  · rw [hnote, Ne, State.noticeWord_eq_zero_iff]
    simp
  · rw [State.answerCause, hmode]
  · rw [State.answerCause, hmode]
  · rw [State.answerCause_of_each hs hmode, ← s.lowestInspectDone_eq_some_iff]
    simp [Option.map_eq_some_iff, Fin.val_inj]
  · rw [State.answerCause_of_each hs hmode, Option.map_eq_none_iff]
    exact s.lowestInspectDone_eq_none_iff
  · obtain ⟨-, -, -, hother⟩ := hs
    rw [State.maintCause, hother]
    rfl
  · obtain ⟨-, -, -, hother⟩ := hs
    rw [State.maintCause] at hi
    split at hi
    next hmark =>
      obtain rfl := Option.some.inj hi
      have := s.countCells_le .done fun k => decide (k ≠ some .inspect)
      simp only [NoticeUnit.mark] at hmark
      omega
    next => cases hi

/-! ### The registers, field by field -/

/-- A bit of a register built from a number. -/
theorem getLsbD_ofNat_eq {n i : Nat} (hi : i < 16) : (BitVec.ofNat 16 n).getLsbD i = decide (n / 2 ^ i % 2 = 1) := by
  rw [BitVec.getLsbD_ofNat, Nat.testBit_eq_decide_div_mod_eq, decide_eq_true hi, Bool.true_and]

/-- A field of a register built from a number. -/
theorem extractLsb'_ofNat_toNat {n i k : Nat} (hn : n < 2 ^ 16) :
    ((BitVec.ofNat 16 n).extractLsb' i k).toNat = n / 2 ^ i % 2 ^ k := by
  rw [BitVec.extractLsb'_toNat, BitVec.toNat_ofNat, Nat.mod_eq_of_lt hn, Nat.shiftRight_eq_div_pow]

theorem extractLsb'_ofNat_eq_iff {n i k v : Nat} (hn : n < 2 ^ 16) (hv : v < 2 ^ k) :
    (BitVec.ofNat 16 n).extractLsb' i k = BitVec.ofNat k v ↔ n / 2 ^ i % 2 ^ k = v := by
  rw [← BitVec.toNat_inj, extractLsb'_ofNat_toNat hn, BitVec.toNat_ofNat, Nat.mod_eq_of_lt hv]

/-- ENG_STATUS (R195). -/
theorem State.engStatus_fields {s : State} (hs : s.countsExact) :
    (s.engStatus.extractLsb' 0 2 = 0#2 ↔ s.table.service = .noService) ∧
    (s.engStatus.extractLsb' 0 2 = 1#2 ↔ s.table.service = .checking) ∧
    (s.engStatus.extractLsb' 0 2 = 2#2 ↔ s.table.service = .inService) ∧
    (s.engStatus.extractLsb' 0 2 = 3#2 ↔ s.table.service = .terminated) ∧
    s.engStatus.getLsbD 2 = s.clock.valid ∧ s.engStatus.getLsbD 3 = s.deny.sweep.isSome ∧
    (s.engStatus.extractLsb' 4 6).toNat = s.countCells .ready ∧ (s.engStatus.extractLsb' 10 6).toNat = s.countCells .done := by
  obtain ⟨hready, hdone, -, -⟩ := hs
  have hr : s.notice.readyCount ≤ 32 := hready ▸ s.countCells_le ..
  have hd : s.notice.doneCount ≤ 32 := hdone ▸ s.countCells_le ..
  rw [← hready, ← hdone]
  have hcode : s.table.service.code ≤ 3 := by cases s.table.service <;> decide
  have hv := s.clock.valid.toNat_le
  have hw := s.deny.sweep.isSome.toNat_le
  have hbound : s.table.service.code + 4 * s.clock.valid.toNat + 8 * s.deny.sweep.isSome.toNat + 16 * s.notice.readyCount +
      1024 * s.notice.doneCount < 2 ^ 16 := by omega
  have hstate (v : Nat) (hv' : v < 4) : s.engStatus.extractLsb' 0 2 = BitVec.ofNat 2 v ↔ s.table.service.code = v := by
    rw [State.engStatus, extractLsb'_ofNat_eq_iff hbound hv']
    omega
  have hbit (b : Bool) : decide (b.toNat = 1) = b := by cases b <;> rfl
  refine ⟨(hstate 0 (by decide)).trans ?_, (hstate 1 (by decide)).trans ?_, (hstate 2 (by decide)).trans ?_,
    (hstate 3 (by decide)).trans ?_, ?_, ?_, ?_, ?_⟩
  iterate 4 cases s.table.service <;> simp [ServiceState.code]
  · rw [State.engStatus, getLsbD_ofNat_eq (by decide), ← hbit s.clock.valid]
    congr 1
    rw [hbit]
    exact propext ⟨fun h => by omega, fun h => by omega⟩
  · rw [State.engStatus, getLsbD_ofNat_eq (by decide), ← hbit s.deny.sweep.isSome]
    congr 1
    rw [hbit]
    exact propext ⟨fun h => by omega, fun h => by omega⟩
  · rw [State.engStatus, extractLsb'_ofNat_toNat hbound]
    omega
  · rw [State.engStatus, extractLsb'_ofNat_toNat hbound]
    omega

/-- ENG_CONTROL, with ENGINE_RESET and REARM 0 (R196). -/
theorem State.engControl_fields (s : State) :
    s.engControl.getLsbD 0 = false ∧ (s.engControl.extractLsb' 1 2 = 0#2 ↔ s.notice.mode = .off) ∧
    (s.engControl.extractLsb' 1 2 = 1#2 ↔ s.notice.mode = .first) ∧
    (s.engControl.extractLsb' 1 2 = 2#2 ↔ s.notice.mode = .each) ∧
    s.engControl.getLsbD 3 = false ∧ s.engControl.extractLsb' 4 3 = s.notice.watermark ∧
    s.engControl.getLsbD 7 = s.notice.journeyFirst ∧ s.engControl.extractLsb' 8 8 = 0#8 := by
  simp only [State.engControl]
  generalize s.notice.watermark = w
  generalize s.notice.journeyFirst = b
  generalize s.notice.mode = mode
  revert w b
  cases mode <;> decide

/-- EVENT_FLAGS and EVENT_ENABLE: nine bits, and 0 above (Table 11-1). -/
theorem getLsbD_setWidth_nine (x : BitVec 9) (i : Fin 16) :
    (x.setWidth 16).getLsbD i = (decide (i.val < 9) && x.getLsbD i) := by
  rw [BitVec.getLsbD_setWidth, decide_eq_true i.isLt, Bool.true_and]
  by_cases hi : i.val < 9
  · simp [hi]
  · rw [BitVec.getLsbD_of_ge _ _ (by omega)]
    simp

/-! ### Memory and the mirror -/

theorem evenAddress_even {k : Nat} (hk : k < 0x8000) : evenAddress (BitVec.ofNat 16 (2 * k)) = 2 * k := by
  rw [evenAddress, BitVec.toNat_ofNat, Nat.mod_eq_of_lt (by omega)]
  omega

/-- A word outside the mirror's words 1 to 31, or with no hold copy, is read live (R141, R168). -/
theorem State.hostRead_live {s : State} {w : Nat} (hw : w < 0x4000) (h : s.journey.hold = none ∨ w ≤ 0x0400 ∨ 0x0420 ≤ w) :
    s.hostRead (BitVec.ofNat 16 (2 * w)) = s.mem.read (2 * w + 1) ++ s.mem.read (2 * w) := by
  rw [State.hostRead, evenAddress_even (by omega)]
  split
  next hmirror =>
    simp only [Config.mirrorBase, Config.scratchBase] at hmirror
    rw [h.resolve_right (by omega)]
    rfl
  next =>
    rw [if_pos (by simp only [Config.memoryEnd]; omega)]
    rfl

/-- With a hold copy words 1 to 31 of the mirror are read from it (R141). -/
theorem State.hostRead_hold {s u : State} {w : Nat}
    (h : u.journey.hold = some (s.mem.readList (Config.mirrorBase + 2) (Config.mirrorSize - 2))) (h₁ : 1 ≤ w) (h₂ : w ≤ 31) :
    u.hostRead (BitVec.ofNat 16 (0x0800 + 2 * w)) = s.mem.read (0x0800 + 2 * w + 1) ++ s.mem.read (0x0800 + 2 * w) := by
  have haddr : evenAddress (BitVec.ofNat 16 (0x0800 + 2 * w)) = 0x0800 + 2 * w := by
    rw [show 0x0800 + 2 * w = 2 * (0x0400 + w) by omega, evenAddress_even (by omega)]
  rw [State.hostRead, haddr]
  simp only [Config.mirrorBase, Config.scratchBase, Config.mirrorSize] at h ⊢
  rw [if_pos (by omega), h]
  dsimp only
  rw [Memory.readList_getD _ (by omega), Memory.readList_getD _ (by omega),
    show 0x0800 + 2 + (0x0800 + 2 * w - (0x0800 + 2)) = 0x0800 + 2 * w by omega,
    show 0x0800 + 2 + (0x0800 + 2 * w + 1 - (0x0800 + 2)) = 0x0800 + 2 * w + 1 by omega]
  rfl

/-- Settles O11: memory live or from the hold copy, the registers field by field. -/
theorem hostReadsShowState : Obligations.HostReadsShowState := by
  refine ⟨fun s lanes hlanes => ?_, fun s w => State.hostRead_live, fun s r hr hs => hr ▸ State.engStatus_fields hs,
    fun s r hr => hr ▸ s.engControl_fields, fun s i => ⟨?_, ?_⟩, fun s => ?_⟩
  · have hhold : (s.readMirrorWord0 lanes).journey.hold =
        some (s.mem.readList (Config.mirrorBase + 2) (Config.mirrorSize - 2)) := by
      rw [State.readMirrorWord0, if_pos hlanes]
    have hword : s.hostRead 0x0800#16 = s.mem.read 0x0801 ++ s.mem.read 0x0800 :=
      State.hostRead_live (w := 0x0400) (by decide) (.inr (.inl le_rfl))
    refine ⟨_, rfl, ?_, fun u w hu h₁ h₂ => State.hostRead_hold (hu.trans hhold) h₁ h₂⟩
    rw [← hword, State.readMirrorWord0, if_pos hlanes]
    rfl
  · exact getLsbD_setWidth_nine s.notice.flags i
  · exact getLsbD_setWidth_nine s.notice.enable i
  · have hflag (f : EventFlag) (hf : f.number < 16) : s.flag f = (s.hostRead 0x8006#16).getLsbD f.number := by
      show _ = (s.notice.flags.setWidth 16).getLsbD f.number
      rw [BitVec.getLsbD_setWidth, decide_eq_true hf, Bool.true_and]
      rfl
    rw [List.map_congr_left (g := fun f => (s.hostRead 0x8006#16).getLsbD f.number) fun f _ => hflag f (by cases f <;> decide)]
    rfl

end Sys2Proof.Machine
end

section
/-!
Host writes to exchange memory that reach no state byte, and the writes of the registers (R168, R182, R183, R199).
-/
namespace Sys2Proof.Machine

/-! ### One byte -/

/-- The address is a cell's state byte. -/
abbrev isStateByte (a : Nat) : Prop := a < Config.mirrorBase ∧ a % Config.cellSize = 0

theorem not_guarded_of_inMirror (s : State) {a : Nat} (h : inMirror a) : s.guarded a = false := by
  simp only [inMirror, Config.mirrorBase, Config.scratchBase] at h
  simp only [State.guarded, Config.mirrorBase, Config.contextBase]
  rw [if_neg (by omega), if_pos (by omega)]

section Plain

variable {s : State} {a : Nat} {b : Byte}

/-- A byte in the mirror is discarded (R140). -/
theorem State.writeByte_of_inMirror (s : State) (b : Byte) (ha : ¬ isStateByte a) (h : inMirror a) : s.writeByte a b = s := by
  rw [State.writeByte, if_neg ha, if_pos h]

/-- A byte under a guard is discarded with GUARD_HIT (R182). -/
theorem State.writeByte_of_guarded (b : Byte) (ha : ¬ isStateByte a) (h : s.guarded a = true) :
    s.writeByte a b = s.raise .guardHit := by
  have hm : ¬ inMirror a := fun hm => by simp [not_guarded_of_inMirror s hm] at h
  rw [State.writeByte, if_neg ha, if_neg hm, if_pos h]

/-- Any other byte is stored (R168). -/
theorem State.writeByte_of_free (b : Byte) (ha : ¬ isStateByte a) (hm : ¬ inMirror a) (h : s.guarded a = false) :
    s.writeByte a b = { s with mem := s.mem.write a b } := by
  rw [State.writeByte, if_neg ha, if_neg hm, if_neg (by simp [h])]

/-- What one byte's write does, in one equation for each thing it can change. -/
theorem State.writeByte_plain (hs : s.memoryCanonical) (hend : a < Config.memoryEnd) (ha : ¬ isStateByte a) (b : Byte) :
    (s.writeByte a b).memoryCanonical ∧ s.sameFlagsBut (s.writeByte a b) [.guardHit] ∧
      (s.writeByte a b).flag .guardHit = (s.flag .guardHit || s.guarded a) ∧
      (s.writeByte a b).mem.read a = (if ¬ inMirror a ∧ s.guarded a = false then b else s.mem.read a) ∧
      s.sameBytesBut (s.writeByte a b) (fun x => x = a) := by
  by_cases hm : inMirror a
  · rw [State.writeByte_of_inMirror s b ha hm, not_guarded_of_inMirror s hm]
    exact ⟨hs, fun _ _ => rfl, (Bool.or_false _).symm, by simp [hm], .of_mem rfl⟩
  · cases hg : s.guarded a with
    | true =>
      rw [State.writeByte_of_guarded b ha hg]
      refine ⟨hs, fun f hf => ?_, by simp, by simp, .of_mem rfl⟩
      rw [List.mem_singleton] at hf
      simp [hf]
    | false =>
      rw [State.writeByte_of_free b ha hm hg]
      exact ⟨Memory.wf_write b hs hend, fun _ _ => rfl, (Bool.or_false _).symm, by simp [hm, Memory.read_write_same hs],
        fun x hx => Memory.read_write_of_ne _ _ hx⟩

/-- A byte written moves no guard of another byte, unless it is a state byte. -/
theorem State.guarded_writeByte (s : State) (b : Byte) (ha : ¬ isStateByte a) (x : Nat) :
    (s.writeByte a b).guarded x = s.guarded x := by
  have hcell : ∀ n : Fin 32, (s.writeByte a b).cellState n = s.cellState n := by
    intro n
    refine State.cellState_congr (s.writeByte_sameBytesBut a b _ ?_)
    rintro (⟨h, -⟩ | ⟨h₁, h₂, -⟩)
    · have := cellBase_lt n
      refine ha ⟨?_, by rw [← h, cellBase, Nat.mul_mod_right]⟩
      simp only [Config.cellSize] at this
      omega
    · exact ha ⟨h₁, h₂⟩
  obtain ⟨m, F, h⟩ := s.writeByte_frame_of_plain b ha
  have htable : (s.writeByte a b).table = s.table := by rw [h]
  simp only [State.guarded, hcell, htable]

end Plain

/-! ### A word -/

section Word

variable {s : State} {a : Nat} {data : Word} {lanes : Lanes}

theorem not_isStateByte_odd (heven : a % 2 = 0) : ¬ isStateByte (a + 1) := by
  simp only [isStateByte, Config.cellSize]
  omega

theorem inMirror_succ (heven : a % 2 = 0) : inMirror (a + 1) ↔ inMirror a := by
  simp only [inMirror, Config.mirrorBase, Config.scratchBase]
  omega

theorem State.sameFlagsBut.trans {s t u : State} {l : List EventFlag} (h₁ : s.sameFlagsBut t l) (h₂ : t.sameFlagsBut u l) :
    s.sameFlagsBut u l := fun f hf => (h₂ f hf).trans (h₁ f hf)

/-- The odd byte of a write, before the even one is judged (R170). -/
def State.writeHigh (s : State) (a : Nat) (data : Word) (lanes : Lanes) : State :=
  if lanes.high then s.writeByte (a + 1) (highByte data) else s

/-- The even byte of a write. -/
def State.writeLow (s : State) (a : Nat) (data : Word) (lanes : Lanes) : State :=
  if lanes.low then s.writeByte a (lowByte data) else s

theorem State.writeMemoryWord_eq (s : State) (a : Nat) (data : Word) (lanes : Lanes) :
    s.writeMemoryWord a data lanes = (s.writeHigh a data lanes).writeLow a data lanes := rfl

theorem State.writeHigh_plain (hs : s.memoryCanonical) (heven : a % 2 = 0) (hend : a < Config.memoryEnd) (data : Word) (lanes : Lanes) :
    (s.writeHigh a data lanes).memoryCanonical ∧ s.sameFlagsBut (s.writeHigh a data lanes) [.guardHit] ∧
      (s.writeHigh a data lanes).flag .guardHit = (s.flag .guardHit || (lanes.high && s.guarded (a + 1))) ∧
      (s.writeHigh a data lanes).mem.read (a + 1) =
        (if lanes.high = true ∧ ¬ inMirror a ∧ s.guarded (a + 1) = false then highByte data else s.mem.read (a + 1)) ∧
      s.sameBytesBut (s.writeHigh a data lanes) (fun x => x = a + 1) ∧
      ∀ x, (s.writeHigh a data lanes).guarded x = s.guarded x := by
  unfold State.writeHigh
  cases hhigh : lanes.high with
  | false => exact ⟨hs, fun _ _ => rfl, by simp, by simp, .of_mem rfl, fun _ => rfl⟩
  | true =>
    have hodd : a + 1 < Config.memoryEnd := by simp only [Config.memoryEnd] at *; omega
    obtain ⟨h₁, h₂, h₃, h₄, h₅⟩ := State.writeByte_plain hs hodd (not_isStateByte_odd heven) (highByte data)
    refine ⟨h₁, h₂, by simpa using h₃, ?_, h₅, s.guarded_writeByte _ (not_isStateByte_odd heven)⟩
    rw [if_pos rfl, h₄]
    simp only [inMirror_succ heven, true_and]

theorem State.writeLow_plain (hs : s.memoryCanonical) (hend : a < Config.memoryEnd) (hplain : ¬ isStateByte a ∨ lanes.low = false)
    (data : Word) :
    s.sameFlagsBut (s.writeLow a data lanes) [.guardHit] ∧
      (s.writeLow a data lanes).flag .guardHit = (s.flag .guardHit || (lanes.low && s.guarded a)) ∧
      (s.writeLow a data lanes).mem.read a =
        (if lanes.low = true ∧ ¬ inMirror a ∧ s.guarded a = false then lowByte data else s.mem.read a) ∧
      s.sameBytesBut (s.writeLow a data lanes) (fun x => x = a) := by
  unfold State.writeLow
  cases hlow : lanes.low with
  | false => exact ⟨fun _ _ => rfl, by simp, by simp, .of_mem rfl⟩
  | true =>
    obtain ⟨-, h₂, h₃, h₄, h₅⟩ := State.writeByte_plain hs hend (hplain.resolve_right (by simp [hlow])) (lowByte data)
    refine ⟨h₂, by simpa using h₃, ?_, h₅⟩
    rw [if_pos rfl, h₄]
    simp

theorem evenAddress_even_mod (addr : Word) : evenAddress addr % 2 = 0 := by
  rw [evenAddress]
  omega

theorem exec_hostWrite (s : State) (addr data : Word) (lanes : Lanes) :
    exec (.hostWrite addr data lanes) s = (s.access (evenAddress addr) data lanes).event := rfl

end Word

/-! ### What stands under a guard -/

theorem cellOf_eq_iff {a : Nat} (ha : a < Config.mirrorBase) (n : Fin 32) :
    cellOf a = n ↔ 64 * n.val ≤ a ∧ a < 64 * n.val + 64 := by
  have hin := inCell_cellOf ha
  constructor
  · rintro rfl
    exact hin
  · exact fun h => cellOf_of_inCell h

theorem TableUnit.inExtent_iff (u : TableUnit) (a : Nat) : u.inExtent a = true ↔
    ∃ (h : Fin 32 × TableTask) (offset count applied : Nat) (applying : Bool),
      u.held = some h ∧ h.2 = .denyBatch offset count applied applying ∧ offset ≤ a ∧ a < offset + 4 + 12 * count := by
  simp only [TableUnit.inExtent, TableUnit.batchExtent]
  split
  next n offset count applied applying hheld =>
    simp only [Option.any_some, decide_eq_true_eq, batchLength]
    constructor
    · rintro ⟨h₁, h₂⟩
      exact ⟨_, offset, count, applied, applying, hheld, rfl, h₁, by omega⟩
    · rintro ⟨h, offset', count', applied', applying', hh, htask, h₁, h₂⟩
      obtain rfl := Option.some.inj (hheld.symm.trans hh)
      obtain ⟨rfl, rfl, -, -⟩ := TableTask.denyBatch.inj htask
      exact ⟨h₁, by omega⟩
  next hnot =>
    simp only [Option.any_none, Bool.false_eq_true, false_iff]
    rintro ⟨⟨n, task⟩, offset, count, applied, applying, hheld, rfl, -⟩
    exact hnot n offset count applied applying hheld

/-- The bytes under a guard: a TAKEN cell, the context region, a batch extent (R148, R182, R183). -/
theorem State.guarded_iff (s : State) {a : Nat} : s.guarded a = true ↔
    (∃ n : Fin 32, 64 * n.val ≤ a ∧ a < 64 * n.val + 64 ∧ s.cellState n = .taken) ∨
    0x1000 ≤ a ∧ a < 0x3000 ∧ s.table.service ≠ .noService ∨
    0x3000 ≤ a ∧ ∃ (h : Fin 32 × TableTask) (offset count applied : Nat) (applying : Bool),
      s.table.held = some h ∧ h.2 = .denyBatch offset count applied applying ∧
      offset ≤ a ∧ a < offset + 4 + 12 * count := by
  rw [← TableUnit.inExtent_iff]
  have hcell (ha : Config.mirrorBase ≤ a) : ¬ ∃ n : Fin 32, 64 * n.val ≤ a ∧ a < 64 * n.val + 64 ∧ s.cellState n = .taken := by
    rintro ⟨n, h₁, h₂, -⟩
    have := n.isLt
    simp only [Config.mirrorBase] at ha
    omega
  unfold State.guarded
  split
  next ha =>
    have hregion : ¬ (0x1000 ≤ a) ∧ ¬ (0x3000 ≤ a) := by
      simp only [Config.mirrorBase] at ha
      omega
    simp only [hregion, false_and, or_false, decide_eq_true_eq]
    constructor
    · exact fun h => ⟨cellOf a, ((cellOf_eq_iff ha _).1 rfl).1, ((cellOf_eq_iff ha _).1 rfl).2, h⟩
    · rintro ⟨n, h₁, h₂, h⟩
      rwa [(cellOf_eq_iff ha n).2 ⟨h₁, h₂⟩]
  next ha =>
    rw [iff_false_intro (hcell (not_lt.mp ha)), false_or]
    simp only [Config.contextBase, Config.bulkBase]
    split
    next h => simp [show ¬ 0x1000 ≤ a by omega, show ¬ 0x3000 ≤ a by omega]
    next h =>
      split
      next h' => simp [show 0x1000 ≤ a by omega, h', show ¬ 0x3000 ≤ a by omega]
      next h' => simp [h', show 0x3000 ≤ a by omega]

/-! ### The registers -/

/-- A write with no storage behind it is ignored (R199). -/
theorem State.access_of_ignored (s : State) {a : Nat} (data : Word) (lanes : Lanes)
    (ha : a = Config.engStatusAddr ∨ a = Config.noticeAddr ∨ 0x800A ≤ a) : s.access a data lanes = s := by
  simp only [Config.engStatusAddr, Config.noticeAddr] at ha
  rcases s.access_cases a data lanes with ⟨h, -⟩ | ⟨h, -⟩ | ⟨h, -⟩ | ⟨h, -⟩ | ⟨-, -, -, -, h⟩
  · simp only [Config.memoryEnd] at h
    omega
  · simp only [Config.engControlAddr] at h
    omega
  · simp only [Config.eventFlagsAddr] at h
    omega
  · simp only [Config.eventEnableAddr] at h
    omega
  · exact h

/-- An address above the registers reads 0 (R168). -/
theorem State.hostRead_of_above (s : State) {addr : Word} (h : 0x800A ≤ evenAddress addr) : s.hostRead addr = 0#16 := by
  simp only [State.hostRead, Config.mirrorBase, Config.scratchBase, Config.memoryEnd, Config.engStatusAddr, Config.engControlAddr,
    Config.noticeAddr, Config.eventFlagsAddr, Config.eventEnableAddr]
  iterate 7 rw [if_neg (by omega)]

/-- Settles O12: the two bytes of a word each by the rule of its region, the guards by address, the registers by theirs. -/
theorem hostWriteStoresOrIsDiscarded : Obligations.HostWriteStoresOrIsDiscarded := by
  refine ⟨fun s addr data lanes a hs ha hend hplain => ?_, fun s a _ => s.guarded_iff, fun s reg data lanes =>
    exec_registerWriteIgnored reg data lanes s, fun s addr data lanes hnote haddr => ⟨?_, s.hostRead_of_above⟩,
    fun s addr data lanes => ⟨fun haddr c hc => ?_, fun haddr => ?_, fun haddr => ?_⟩⟩
  · have heven : a % 2 = 0 := ha ▸ evenAddress_even_mod addr
    have hplain : ¬ isStateByte a ∨ lanes.low = false := by
      by_cases hlow : a < Config.mirrorBase
      · exact (hplain hlow).imp_left fun h hstate => h hstate.2
      · exact .inl fun h => hlow h.1
    obtain ⟨hs₁, hflags₁, hhit₁, hread₁, hbytes₁, hguard₁⟩ := State.writeHigh_plain hs heven hend data lanes
    obtain ⟨hflags₂, hhit₂, hread₂, hbytes₂⟩ := State.writeLow_plain hs₁ hend hplain data
    have hframe : ∃ m F, s.writeMemoryWord a data lanes = { s with mem := m, notice := { s.notice with flags := F } } := by
      refine s.writeMemoryWord_frame_of_plain data heven ?_
      rcases hplain with h | h
      · rw [decide_eq_false h, Bool.and_false]
      · rw [h, Bool.false_and]
    refine ⟨(s.writeMemoryWord a data lanes).driveNote.settled, ?_, ?_, ?_, ?_, ?_, ?_, ?_⟩
    · rw [exec_hostWrite, ← ha, State.access_of_lt _ _ _ hend]
      rfl
    · obtain ⟨m, F, h⟩ := hframe
      rw [h]
      rfl
    · exact hflags₁.trans hflags₂
    · refine Eq.trans hhit₂ ?_
      rw [hhit₁, hguard₁]
      cases s.flag .guardHit <;> cases lanes.high && s.guarded (a + 1) <;> simp
    · refine Eq.trans hread₂ ?_
      rw [hguard₁, hbytes₁ a (by simp)]
    · exact (hbytes₂ (a + 1) (by simp)).trans hread₁
    · exact (hbytes₁.mono fun _ => .inr).trans (hbytes₂.mono fun _ => .inl)
  · rw [exec_hostWrite, State.access_of_ignored _ _ _ haddr, State.event, State.driveNote_of_noteAgrees hnote]
  · rw [exec_hostWrite, haddr]
    simp only [List.mem_cons, List.not_mem_nil, or_false] at hc
    rcases hc with rfl | rfl | rfl | rfl | rfl <;> rfl
  · rw [exec_hostWrite, haddr]
    rfl
  · rw [exec_hostWrite, haddr]
    rfl

end Sys2Proof.Machine
end

section
/-!
Writes to a state byte (Table 10-3): the access as the kind byte stored and the state byte judged, arrivals, withdrawals and
releases, and the writes that are none of these.
-/
namespace Sys2Proof.Machine

/-! ### What a change of a cell's state does to the notice unit (R181, R191) -/

theorem NoticeUnit.cellChanged_ready (u : NoticeUnit) (n : Fin 32) (k : Option RequestKind) :
    u.cellChanged n k .empty .ready = { u with readyCount := u.readyCount + 1 } := by
  simp [NoticeUnit.cellChanged, CellState.is]

theorem NoticeUnit.cellChanged_withdrawn (u : NoticeUnit) (n : Fin 32) (k : Option RequestKind) :
    u.cellChanged n k .ready .empty = { u with readyCount := u.readyCount - 1 } := by
  simp [NoticeUnit.cellChanged, CellState.is]

theorem NoticeUnit.cellChanged_released (u : NoticeUnit) (n : Fin 32) (k : Option RequestKind) :
    u.cellChanged n k .done .empty = { u with
      doneCount := u.doneCount - 1
      inspectDone := u.inspectDone - (if k = some .inspect then 1 else 0)
      otherDone := u.otherDone - (if k = some .inspect then 0 else 1) } := by
  by_cases hk : k = some .inspect <;> simp [NoticeUnit.cellChanged, CellState.is, hk]

/-- An answer of intake's own is no INSPECT's. -/
theorem NoticeUnit.cellChanged_unknown (u : NoticeUnit) (n : Fin 32) :
    u.cellChanged n none .empty .done = { u with doneCount := u.doneCount + 1, otherDone := u.otherDone + 1 } := by
  simp [NoticeUnit.cellChanged, CellState.is]

theorem State.cellState_store_cell (s : State) (n : Fin 32) {k : Nat} (hk : 0 < k) (bs : List Byte) :
    (s.store (cellBase n + k) bs).cellState n = s.cellState n :=
  State.cellState_congr (s.store_sameBytesBut _ _ _ (by rintro ⟨h, -⟩; omega))

theorem State.post_notice (s : State) (n : Fin 32) (answer : List Byte) (body : Option (List Byte)) :
    (s.post n answer body).notice = s.notice.cellChanged n (s.kindOf n) (s.cellState n) .done := by
  have hanswer : (s.store (cellBase n + Config.answerOffset) (padTo Config.answerSize answer)).cellState n = s.cellState n :=
    s.cellState_store_cell n (by decide) _
  cases body with
  | none =>
    rw [← hanswer]
    rfl
  | some bs =>
    rw [← hanswer, ← State.cellState_store_cell _ n (show 0 < Config.bodyOffset by decide) (bs.take Config.bodySize)]
    rfl

/-! ### An access to word 0 of a cell -/

/-- The kind byte of a cell stored, when the access selects its lane. -/
def State.storeKind (s : State) (n : Fin 32) (high : Bool) (kind : Byte) : State :=
  if high then { s with mem := s.mem.write (cellBase n + 1) kind } else s

theorem isStateByte_cellBase (n : Fin 32) : isStateByte (cellBase n) :=
  ⟨by have := cellBase_lt n; simp only [Config.cellSize] at this; omega, Nat.mul_mod_right ..⟩

theorem cellBase_even (n : Fin 32) : cellBase n % 2 = 0 := by
  simp only [cellBase, Config.cellSize]
  omega

theorem cellOf_kindByte (n : Fin 32) : cellOf (cellBase n + 1) = n :=
  cellOf_of_inCell ⟨by omega, by simp only [Config.cellSize]; omega⟩

theorem kindByte_lt (n : Fin 32) : cellBase n + 1 < Config.mirrorBase := by
  have := cellBase_lt n
  simp only [Config.cellSize] at this
  omega

theorem State.guarded_kindByte (s : State) (n : Fin 32) : s.guarded (cellBase n + 1) = decide (s.cellState n = .taken) := by
  rw [State.guarded, if_pos (kindByte_lt n), cellOf_kindByte]

theorem not_inMirror_kindByte (n : Fin 32) : ¬ inMirror (cellBase n + 1) :=
  not_inMirror_of_inCell (n := n) ⟨by omega, by simp only [Config.cellSize]; omega⟩

section Access

variable {s : State} {n : Fin 32}

theorem State.writeLow_stateByte (s : State) (n : Fin 32) (data : Word) (high : Bool) :
    s.writeLow (cellBase n) data { low := true, high := high } = s.writeStateByte n (lowByte data) := by
  rw [State.writeLow, if_pos rfl, State.writeByte, if_pos (isStateByte_cellBase n), cellOf_cellBase]

/-- Into a cell that is not TAKEN the kind byte is stored, and the state byte judged then (R170). -/
theorem State.writeCell_of_free (hn : s.cellState n ≠ .taken) (data : Word) (high : Bool) :
    s.writeMemoryWord (cellBase n) data { low := true, high := high } =
      (s.storeKind n high (highByte data)).writeStateByte n (lowByte data) := by
  have hhigh : s.writeHigh (cellBase n) data { low := true, high := high } = s.storeKind n high (highByte data) := by
    cases high with
    | false => rfl
    | true =>
      rw [State.writeHigh, if_pos rfl, State.storeKind, if_pos rfl]
      exact State.writeByte_of_free _ (not_isStateByte_odd (cellBase_even n)) (not_inMirror_kindByte n)
        (by rw [State.guarded_kindByte, decide_eq_false hn])
  rw [State.writeMemoryWord_eq, hhigh, State.writeLow_stateByte]

/-- Into a TAKEN cell nothing is stored; the kind byte's lane sets GUARD_HIT (R182). -/
theorem State.writeCell_of_taken (hn : s.cellState n = .taken) (data : Word) (high : Bool) :
    s.writeMemoryWord (cellBase n) data { low := true, high := high } = if high then s.raise .guardHit else s := by
  have hhigh : s.writeHigh (cellBase n) data { low := true, high := high } = if high then s.raise .guardHit else s := by
    cases high with
    | false => rfl
    | true =>
      rw [State.writeHigh, if_pos rfl, if_pos rfl]
      exact State.writeByte_of_guarded _ (not_isStateByte_odd (cellBase_even n)) (by rw [State.guarded_kindByte, decide_eq_true hn])
  have htaken : (if high then s.raise .guardHit else s).cellState n = .taken := by
    cases high <;> exact hn
  rw [State.writeMemoryWord_eq, hhigh, State.writeLow_stateByte, State.writeStateByte, htaken]

theorem State.storeKind_cellState (s : State) (n : Fin 32) (high : Bool) (kind : Byte) :
    (s.storeKind n high kind).cellState n = s.cellState n := by
  unfold State.storeKind
  split
  · exact State.cellState_congr (Memory.read_write_of_ne _ _ (by omega))
  · rfl

theorem State.storeKind_memoryCanonical (hs : s.memoryCanonical) (n : Fin 32) (high : Bool) (kind : Byte) :
    (s.storeKind n high kind).memoryCanonical := by
  unfold State.storeKind
  split
  · exact Memory.wf_write _ hs (by have := kindByte_lt n; simp only [Config.mirrorBase, Config.memoryEnd] at *; omega)
  · exact hs

theorem State.storeKind_cellByte (hs : s.memoryCanonical) (n : Fin 32) (high : Bool) (kind : Byte) :
    (s.storeKind n high kind).cellByte n 1 = if high then kind else s.cellByte n 1 := by
  unfold State.storeKind
  split
  · exact Memory.read_write_same hs _ _
  · rfl

theorem State.storeKind_sameBytesBut (s : State) (n : Fin 32) (high : Bool) (kind : Byte) :
    s.sameBytesBut (s.storeKind n high kind) (fun a => a = cellBase n + 1) := by
  unfold State.storeKind
  split
  · exact fun x hx => Memory.read_write_of_ne _ _ hx
  · exact .of_mem rfl

theorem State.storeKind_eq (s : State) (n : Fin 32) (high : Bool) (kind : Byte) :
    s.storeKind n high kind = { s with mem := (s.storeKind n high kind).mem } := by
  unfold State.storeKind
  split <;> rfl

end Access

/-! ### Arrivals (R174 to R176) -/

theorem lowByte_append (high low : Byte) : lowByte (high ++ low) = low := by
  exact BitVec.setWidth_append_eq_right

theorem highByte_append (high low : Byte) : highByte (high ++ low) = high := by
  simp only [highByte]
  exact BitVec.extractLsb'_append_eq_left

theorem exec_arrival (s : State) (n : Fin 32) (kind : Option Byte) : exec (.arrival n kind) s =
    (s.writeMemoryWord (cellBase n) (kind.getD 0#8 ++ 1#8) { low := true, high := kind.isSome }).event := rfl

theorem kind_of_access {kind : Option Byte} {b : Byte} : (if kind.isSome = true then kind.getD 0#8 else b) = kind.getD b := by
  cases kind <;> rfl

/-- READY written into an EMPTY cell, its kind byte stored first. -/
theorem exec_arrival_of_empty {s : State} {n : Fin 32} (hs : s.memoryCanonical) (hn : s.cellState n = .empty) (kind : Option Byte) :
    ∃ m : Memory, exec (.arrival n kind) s = (({ s with mem := m } : State).arriveCell n).event ∧
      ({ s with mem := m } : State).memoryCanonical ∧ ({ s with mem := m } : State).cellState n = .empty ∧
      ({ s with mem := m } : State).cellByte n 1 = kind.getD (s.cellByte n 1) ∧
      s.sameBytesBut { s with mem := m } (fun a => a = cellBase n + 1) := by
  refine ⟨(s.storeKind n kind.isSome (kind.getD 0#8)).mem, ?_⟩
  rw [← s.storeKind_eq n kind.isSome (kind.getD 0#8)]
  refine ⟨?_, State.storeKind_memoryCanonical hs n _ _, (s.storeKind_cellState n _ _).trans hn, ?_,
    s.storeKind_sameBytesBut n _ _⟩
  · rw [exec_arrival, State.writeCell_of_free (by simp [hn]), highByte_append, lowByte_append, State.writeStateByte,
      State.storeKind_cellState, hn]
    rfl
  · rw [State.storeKind_cellByte hs, kind_of_access]

/-- The arrival of a known kind, before NOTE_N is driven: the READY cell, its place in the queue, the READY count. -/
theorem State.arriveCell_known_eq {s : State} {n : Fin 32} {k : RequestKind} (hn : s.cellState n = .empty)
    (hk : RequestKind.ofByte (s.cellByte n 1) = some k) : s.arriveCell n = { s with
      mem := s.mem.write (cellBase n) CellState.ready.code
      intake := ({ s.intake with arrivalKind := s.intake.arrivalKind.set n (s.cellByte n 1) }).setQueue k.queue
        (s.intake.queue k.queue ++ [n])
      notice := { s.notice with readyCount := s.notice.readyCount + 1 } } := by
  rw [State.arriveCell_of_known hk, State.setCellState,
    show ((s.recordKind n (s.cellByte n Config.kindOffset)).enqueue k.queue n).cellState n = .empty from hn,
    NoticeUnit.cellChanged_ready]
  cases k <;> rfl

/-- Intake's answer to an unknown kind, before NOTE_N is driven. -/
theorem State.arriveCell_unknown_frame {s : State} {n : Fin 32} (hn : s.cellState n = .empty)
    (hk : RequestKind.ofByte (s.cellByte n 1) = none) : ∃ m, s.arriveCell n = { s with
      mem := m
      intake := { s.intake with arrivalKind := s.intake.arrivalKind.set n (s.cellByte n 1) }
      notice := { s.notice with doneCount := s.notice.doneCount + 1, otherDone := s.notice.otherDone + 1 } } := by
  have hkind : (s.recordKind n (s.cellByte n 1)).kindOf n = none := by
    rw [State.kindOf_recordKind, if_pos rfl, hk]
  have hnotice := (s.recordKind n (s.cellByte n 1)).post_notice n [Outcome.badRequest, 0x01#8] none
  rw [hkind, show (s.recordKind n (s.cellByte n 1)).cellState n = .empty from hn, NoticeUnit.cellChanged_unknown] at hnotice
  rw [State.arriveCell_of_unknown hk, show Config.kindOffset = 1 from rfl, State.post_eq, hnotice]
  generalize (State.post _ _ _).mem = m
  exact ⟨m, rfl⟩

theorem State.arriveCell_answers {s : State} {n : Fin 32} (hs : s.memoryCanonical)
    (hk : RequestKind.ofByte (s.cellByte n 1) = none) : (s.arriveCell n).answers n [0x41#8, 0x01#8] := by
  rw [State.arriveCell_of_unknown hk]
  exact State.post_answers (s := s.recordKind n _) hs n [0x41#8, 0x01#8] none

theorem State.arriveCell_unknown_sameBytesBut {s : State} {n : Fin 32} (hk : RequestKind.ofByte (s.cellByte n 1) = none) :
    s.sameBytesBut (s.arriveCell n) (fun a => a = cellBase n ∨ inAnswer n a) := by
  rw [State.arriveCell_of_unknown hk]
  refine (State.post_sameBytesBut (s.recordKind n _) n _ none).mono fun a ha => ha.imp_right fun h => ?_
  exact h.resolve_right fun h => by cases h.1

/-- Settles O13: the arrival of a known kind, and intake's answer to an unknown one. -/
theorem arrivalQueuesOrIsAnswered : Obligations.ArrivalQueuesOrIsAnswered := by
  refine ⟨fun s n kind k hs hn hk => ?_, fun s n kind hs hn hk => ?_⟩
  · obtain ⟨m, hexec, hcanonical, hempty, hkind, hbytes⟩ := exec_arrival_of_empty hs hn kind
    rw [← hkind] at hk ⊢
    have hstored (x : Nat) (hx : x ≠ cellBase n) : (m.write (cellBase n) CellState.ready.code).read x = m.read x :=
      Memory.read_write_of_ne _ _ hx
    refine ⟨_, hexec, ?_, ?_, ?_, ?_⟩ <;> rw [State.arriveCell_known_eq hempty hk]
    · cases k <;> rfl
    · exact congrArg CellState.ofByte (Memory.read_write_same hcanonical _ _)
    · exact hstored _ (by omega)
    · exact fun x hx => (hstored x fun h => hx (.inl h)).trans (hbytes x fun h => hx (.inr h))
  · obtain ⟨m, hexec, hcanonical, hempty, hkind, hbytes⟩ := exec_arrival_of_empty hs hn kind
    rw [← hkind] at hk ⊢
    refine ⟨_, hexec, ?_, (State.arriveCell_answers (s := { s with mem := m }) hcanonical hk).event, ?_, ?_⟩
    · obtain ⟨m, h⟩ := State.arriveCell_unknown_frame (s := { s with mem := m }) hempty hk
      rw [h]
      rfl
    · have hbytes := (State.arriveCell_unknown_sameBytesBut (s := { s with mem := m }) hk).event
      exact hbytes (cellBase n + 1) (by simp [inAnswer, Config.answerOffset])
    · refine (hbytes.mono fun _ h => .inr (.inl h)).trans
        ((State.arriveCell_unknown_sameBytesBut (s := { s with mem := m }) hk).event.mono fun a ha => ?_)
      exact ha.imp_right .inr

/-! ### The other writes to a state byte (Table 10-3) -/

theorem evenAddress_cellBase (n : Fin 32) : evenAddress (BitVec.ofNat 16 (cellBase n)) = cellBase n := by
  have := cellBase_le n
  have heven : cellBase n = 2 * (cellBase n / 2) := by
    have := cellBase_even n
    omega
  rw [heven, evenAddress_even (by omega)]

theorem exec_hostWrite_cell (s : State) (n : Fin 32) (data : Word) (lanes : Lanes) :
    exec (.hostWrite (BitVec.ofNat 16 (cellBase n)) data lanes) s = (s.writeMemoryWord (cellBase n) data lanes).event := by
  rw [exec_hostWrite, evenAddress_cellBase, State.access_of_lt _ _ _ (cellBase_lt_memoryEnd n)]

section StateByte

variable {s : State} {n : Fin 32}

/-- A state byte of a TAKEN cell, or the value a cell already shows, changes nothing. -/
theorem State.writeStateByte_of_idle {v : Byte} (h : s.cellState n = .taken ∨ s.cellState n = .empty ∧ v = 0#8 ∨
    s.cellState n = .ready ∧ v = 1#8) : s.writeStateByte n v = s := by
  rcases h with h | ⟨h, rfl⟩ | ⟨h, rfl⟩ <;> rw [State.writeStateByte, h] <;> rfl

/-- The misuse columns of Table 10-3. -/
theorem State.writeStateByte_of_misuse {v : Byte} (h : (s.cellState n = .empty ∨ s.cellState n = .ready) ∧ 2 ≤ v.toNat ∨
    s.cellState n = .done ∧ 1 ≤ v.toNat) : s.writeStateByte n v = s.raise .cellMisuse := by
  rcases h with ⟨h, hv⟩ | ⟨h, hv⟩
  · have h₀ : v ≠ 0#8 := by rintro rfl; simp at hv
    have h₁ : v ≠ 1#8 := by rintro rfl; simp at hv
    rcases h with h | h <;> rw [State.writeStateByte, h] <;> dsimp only <;> rw [if_neg h₀, if_neg h₁]
  · have h₀ : v ≠ 0#8 := by rintro rfl; simp at hv
    rw [State.writeStateByte, h]
    dsimp only
    rw [if_neg h₀]

theorem State.sameFlagsBut.mono {s t : State} {l l' : List EventFlag} (h : s.sameFlagsBut t l) (hl : ∀ f ∈ l, f ∈ l') :
    s.sameFlagsBut t l' := fun f hf => h f (hf ∘ hl f)

/-- READY into a READY cell changes nothing, into a DONE cell it is a misuse. -/
theorem State.writeStateByte_ready_of_posted (h : s.cellState n = .ready ∨ s.cellState n = .done) :
    s.writeStateByte n 1#8 = if s.cellState n = .done then s.raise .cellMisuse else s := by
  rcases h with h | h
  · rw [State.writeStateByte_of_idle (.inr (.inr ⟨h, rfl⟩)), h]
    rfl
  · rw [State.writeStateByte_of_misuse (.inr ⟨h, by decide⟩), h]
    rfl

theorem State.storeKind_flag (s : State) (n : Fin 32) (high : Bool) (kind : Byte) (f : EventFlag) :
    (s.storeKind n high kind).flag f = s.flag f := by
  rw [s.storeKind_eq]
  rfl

/-- A state that differs in memory and flags alone, at the end of the event. -/
theorem State.event_of_memory_flags {s u : State}
    (h : u = { s with mem := u.mem, notice := { s.notice with flags := u.notice.flags } }) :
    u.driveNote.settled = { s.settled with
      mem := u.driveNote.settled.mem
      notice := { s.notice with flags := u.driveNote.settled.notice.flags, noteN := !u.driveNote.settled.anyPending } } := by
  obtain ⟨m, F, rfl⟩ : ∃ m F, u = { s with mem := m, notice := { s.notice with flags := F } } := ⟨_, _, h⟩
  rfl

/-- What the write of READY leaves of a cell that is not EMPTY. -/
def State.posted (s : State) (n : Fin 32) (kind : Option Byte) (u : State) : Prop :=
  u = { s with mem := u.mem, notice := { s.notice with flags := u.notice.flags } } ∧
    u.cellState n = s.cellState n ∧
    u.cellByte n 1 = (if s.cellState n = .taken then s.cellByte n 1 else kind.getD (s.cellByte n 1)) ∧
    s.sameBytesBut u (fun a => a = cellBase n + 1) ∧
    s.sameFlagsBut u [.cellMisuse, .guardHit] ∧
    u.flag .cellMisuse = (s.flag .cellMisuse || decide (s.cellState n = .done)) ∧
    u.flag .guardHit = (s.flag .guardHit || (decide (s.cellState n = .taken) && kind.isSome))

/-- Into a TAKEN cell: nothing is stored, and a kind byte sets GUARD_HIT. -/
theorem State.posted_of_taken (htaken : s.cellState n = .taken) (kind : Option Byte) :
    s.posted n kind (if kind.isSome then s.raise .guardHit else s) := by
  cases kind with
  | none =>
    refine ⟨rfl, rfl, ?_, .of_mem rfl, fun _ _ => rfl, ?_, ?_⟩ <;> simp [htaken]
  | some b =>
    refine ⟨rfl, rfl, ?_, .of_mem rfl, (s.raise_sameFlagsBut .guardHit).mono (by simp), ?_, ?_⟩ <;>
      simp [htaken, State.cellByte]

/-- Into a READY or a DONE cell: the kind byte is stored, and in a DONE cell CELL_MISUSE is set. -/
theorem State.posted_of_storeKind (hs : s.memoryCanonical) (h : s.cellState n = .ready ∨ s.cellState n = .done)
    (kind : Option Byte) : s.posted n kind (if s.cellState n = .done then
      (s.storeKind n kind.isSome (kind.getD 0#8)).raise .cellMisuse else s.storeKind n kind.isSome (kind.getD 0#8)) := by
  have heq := s.storeKind_eq n kind.isSome (kind.getD 0#8)
  have hstate := s.storeKind_cellState n kind.isSome (kind.getD 0#8)
  have hkind := State.storeKind_cellByte hs n kind.isSome (kind.getD 0#8)
  have hbytes := s.storeKind_sameBytesBut n kind.isSome (kind.getD 0#8)
  have hflag := s.storeKind_flag n kind.isSome (kind.getD 0#8)
  rw [kind_of_access] at hkind
  generalize s.storeKind n kind.isSome (kind.getD 0#8) = u at *
  rcases h with h | h <;> rw [h]
  · refine ⟨?_, hstate, ?_, hbytes, fun f _ => hflag f, ?_, ?_⟩
    · rw [heq]
      rfl
    all_goals simp [h, hkind, hflag]
  · have hother : u.sameFlagsBut (u.raise .cellMisuse) [.cellMisuse] := u.raise_sameFlagsBut .cellMisuse
    refine ⟨?_, hstate, ?_, hbytes, fun f hf => ?_, ?_, ?_⟩
    · rw [heq]
      rfl
    · rw [if_neg (show ¬ s.cellState n = .taken by simp [h])]
      exact hkind
    · exact (hother f (by simp at hf ⊢; exact hf.1)).trans (hflag f)
    all_goals simp [h, hflag]

theorem State.posted_of_arrival (hs : s.memoryCanonical) (hn : s.cellState n ≠ .empty) (kind : Option Byte) :
    s.posted n kind (s.writeMemoryWord (cellBase n) (kind.getD 0#8 ++ 1#8) { low := true, high := kind.isSome }) := by
  cases h : s.cellState n
  case empty => exact absurd h hn
  case taken =>
    rw [State.writeCell_of_taken h]
    exact State.posted_of_taken h kind
  all_goals
    rw [State.writeCell_of_free (by simp [h]), highByte_append, lowByte_append, State.writeStateByte_ready_of_posted
      (by rw [State.storeKind_cellState, h]; simp), State.storeKind_cellState]
    exact State.posted_of_storeKind hs (by simp [h]) kind

end StateByte

/-- Settles O14: READY into a cell that is not EMPTY, the misuse columns, and both bytes of word 0. -/
theorem stateByteWritesByTable : Obligations.StateByteWritesByTable := by
  refine ⟨fun s n kind hs => ⟨exec_hostWrite_cell s n _ _, fun hn => ?_⟩, fun s n data => ?_, fun s n data => ⟨fun htaken => ?_,
    fun hn u hu => ?_⟩⟩
  · obtain ⟨u, hexec, heq, hstate, hkind, hbytes, hflags, hmisuse, hguard⟩ :
        ∃ u : State, exec (.arrival n kind) s = u.event ∧ s.posted n kind u :=
      ⟨_, exec_arrival s n kind, State.posted_of_arrival hs hn kind⟩
    exact ⟨_, hexec, State.event_of_memory_flags heq, hstate, hkind, hbytes.event, hflags, hmisuse, hguard⟩
  · have hwrite : s.writeMemoryWord (cellBase n) data { low := true, high := false } = s.writeStateByte n (lowByte data) := by
      by_cases htaken : s.cellState n = .taken
      · rw [State.writeCell_of_taken htaken, State.writeStateByte_of_idle (.inl htaken)]
        rfl
      · exact State.writeCell_of_free htaken data false
    refine ⟨(s.writeStateByte n (lowByte data)).driveNote.settled, by rw [exec_hostWrite_cell, hwrite]; rfl, fun h => ?_, fun h => ?_⟩
    · rw [State.writeStateByte_of_misuse h]
      refine ⟨rfl, ?_, s.raise_sameFlagsBut .cellMisuse⟩
      exact (s.flag_raise .cellMisuse .cellMisuse).trans (by simp)
    · rw [State.writeStateByte_of_idle h]
      rfl
  · refine ⟨_, exec_hostWrite_cell s n data _, ?_⟩
    rw [State.writeCell_of_taken htaken, if_pos rfl]
    refine ⟨rfl, ?_, s.raise_sameFlagsBut .guardHit⟩
    exact (s.flag_raise .guardHit .guardHit).trans (by simp)
  · have hu : u = s.storeKind n true (highByte data) := hu
    have hfree : u.cellState n ≠ .taken := by rwa [hu, State.storeKind_cellState]
    refine ⟨?_, fun hs => ?_⟩
    · rw [exec_hostWrite_cell, exec_hostWrite_cell, State.writeCell_of_free hn, State.writeCell_of_free hfree, ← hu]
      rfl
    · rw [hu]
      exact ⟨State.storeKind_memoryCanonical hs n _ _, State.storeKind_cellByte hs n _ _, s.storeKind_sameBytesBut n _ _⟩

/-! ### Withdrawals and releases (R177, R178) -/

theorem exec_withdrawal_or_release (s : State) (n : Fin 32) {c : Instr} (hc : c = .withdrawal n ∨ c = .release n) :
    exec c s = (s.writeStateByte n 0#8).event := by
  have hwrite : s.writeMemoryWord (cellBase n) (0#8 ++ 0#8) { low := true, high := false } = s.writeStateByte n 0#8 := by
    by_cases htaken : s.cellState n = .taken
    · rw [State.writeCell_of_taken htaken, State.writeStateByte_of_idle (.inl htaken)]
      rfl
    · rw [State.writeCell_of_free htaken, lowByte_append]
      rfl
  rw [← hwrite]
  rcases hc with rfl | rfl <;> rfl

/-- A withdrawal, before NOTE_N is driven (R177). -/
theorem State.withdrawCell_eq {s : State} {n : Fin 32} {k : RequestKind} (hn : s.cellState n = .ready)
    (hk : s.kindOf n = some k) : s.withdrawCell n = { s with
      mem := s.mem.write (cellBase n) CellState.empty.code
      intake := s.intake.setQueue k.queue ((s.intake.queue k.queue).filter fun m => m ≠ n)
      notice := { s.notice with readyCount := s.notice.readyCount - 1 } } := by
  simp only [State.withdrawCell, hk]
  rw [State.setCellState]
  dsimp only
  have hready (i : Intake) : ({ s with intake := i } : State).cellState n = .ready := hn
  rw [hready, NoticeUnit.cellChanged_withdrawn]

/-- A release, before NOTE_N is driven (R178). -/
theorem State.releaseCell_eq {s : State} {n : Fin 32} (hn : s.cellState n = .done) : s.releaseCell n = { s with
    mem := s.mem.write (cellBase n) CellState.empty.code
    notice := { s.notice with
      doneCount := s.notice.doneCount - 1
      inspectDone := s.notice.inspectDone - (if s.kindOf n = some .inspect then 1 else 0)
      otherDone := s.notice.otherDone - (if s.kindOf n = some .inspect then 0 else 1) } } := by
  rw [State.releaseCell, State.setCellState, hn, NoticeUnit.cellChanged_released]

/-- Settles O15: EMPTY into each of the four states. -/
theorem withdrawalAndReleaseEmptyCell : Obligations.WithdrawalAndReleaseEmptyCell := by
  have emptied (s : State) (n : Fin 32) (hs : s.memoryCanonical) :
      CellState.ofByte ((s.mem.write (cellBase n) CellState.empty.code).read (cellBase n)) = .empty := by
    rw [Memory.read_write_same hs]
    rfl
  refine ⟨fun s n k c hs hn hk hc => ?_, fun s n c hc => ⟨fun hs hn => ?_, fun h => ?_, fun high => ?_⟩⟩
  · rw [exec_withdrawal_or_release s n hc]
    have heq : s.writeStateByte n 0#8 = s.withdrawCell n := by
      rw [State.writeStateByte, hn]
      rfl
    rw [heq, State.withdrawCell_eq hn hk]
    exact ⟨_, rfl, rfl, emptied s n hs, fun x hx => Memory.read_write_of_ne _ _ hx⟩
  · rw [exec_withdrawal_or_release s n hc]
    have heq : s.writeStateByte n 0#8 = s.releaseCell n := by
      rw [State.writeStateByte, hn]
      rfl
    rw [heq, State.releaseCell_eq hn]
    exact ⟨_, rfl, rfl, emptied s n hs, fun x hx => Memory.read_write_of_ne _ _ hx⟩
  · rw [exec_withdrawal_or_release s n hc, State.writeStateByte_of_idle (h.imp_right fun h => .inl ⟨h, rfl⟩)]
    rfl
  · rw [exec_withdrawal_or_release s n hc, exec_hostWrite_cell]
    congr 1
    by_cases htaken : s.cellState n = .taken
    · rw [State.writeCell_of_taken htaken, State.writeStateByte_of_idle (.inl htaken)]
      rfl
    · rw [State.writeCell_of_free htaken, lowByte_append]
      rfl

end Sys2Proof.Machine
end

section
/-!
The service clock: its second with the whole cascade (R66, R67), its loss (R68) and its setting (R70 to R72). Before it,
what the take and the answer of a request leave of the notice unit and of memory (R179, R180), for every request's unit.
-/
namespace Sys2Proof.Machine

/-! ### The take and the answer of a request -/

theorem State.take_frame (s : State) (q : QueueId) (n : Fin 32) : ∃ m N, s.take q n = { s with
    mem := m, intake := s.intake.setQueue q (s.intake.queue q).tail, notice := s.notice.withCounts N } := by
  refine ⟨(s.take q n).mem, (s.take q n).notice, ?_⟩
  have hnotice : (s.take q n).notice = s.notice.withCounts (s.take q n).notice := by
    simp [State.take, NoticeUnit.cellChanged, NoticeUnit.withCounts]
  rw [← hnotice]
  rfl

/-- A DONE cell of another kind than INSPECT leaves the FIRST latch (R191). -/
theorem NoticeUnit.cellChanged_done_of_ne (u : NoticeUnit) (n : Fin 32) {k : Option RequestKind} (hk : k ≠ some .inspect)
    (old : CellState) : u.cellChanged n k old .done = u.withCounts (u.cellChanged n k old .done) := by
  simp [NoticeUnit.cellChanged, NoticeUnit.withCounts, hk]

theorem State.post_frame_of_ne (s : State) {n : Fin 32} (hk : s.kindOf n ≠ some .inspect) (answer : List Byte)
    (body : Option (List Byte)) : ∃ m N, s.post n answer body = { s with mem := m, notice := s.notice.withCounts N } := by
  have hnotice := s.post_notice n answer body
  rw [NoticeUnit.cellChanged_done_of_ne _ _ hk] at hnotice
  refine ⟨(s.post n answer body).mem, s.notice.cellChanged n (s.kindOf n) (s.cellState n) .done, ?_⟩
  rw [← hnotice]
  cases body <;> rfl

theorem State.post_sameBytes (s : State) (n : Fin 32) (answer : List Byte) :
    s.sameBytesBut (s.post n answer) (fun a => a = cellBase n ∨ inAnswer n a) :=
  (s.post_sameBytesBut n answer none).mono fun _ ha => ha.imp_right fun h => h.resolve_right fun h => by cases h.1

theorem State.take_sameBytes (s : State) (q : QueueId) (n : Fin 32) : s.sameBytesBut (s.take q n) (fun a => a = cellBase n) :=
  State.setCellState_sameBytesBut { s with intake := s.intake.setQueue q (s.intake.queue q).tail } n .taken

theorem State.kindOf_take (s : State) (q : QueueId) (n m : Fin 32) : (s.take q n).kindOf m = s.kindOf m := by
  obtain ⟨mem, N, h⟩ := s.take_frame q n
  rw [h]
  cases q <;> rfl

/-- A request that is answered at its take changes its cell, its queue and the counts (R179, R180). -/
theorem State.answered_frame (s : State) (q : QueueId) {n : Fin 32} (hk : s.kindOf n ≠ some .inspect) (answer : List Byte) :
    ∃ m N, (s.take q n).post n answer = { s with
      mem := m, intake := s.intake.setQueue q (s.intake.queue q).tail, notice := s.notice.withCounts N } := by
  obtain ⟨m, N, h⟩ := (s.take q n).post_frame_of_ne (by rwa [State.kindOf_take]) answer none
  obtain ⟨m', N', h'⟩ := s.take_frame q n
  rw [h, h']
  exact ⟨m, N, rfl⟩

theorem State.answered_answers {s : State} (hs : s.memoryCanonical) (q : QueueId) (n : Fin 32) (answer : List Byte) :
    ((s.take q n).post n answer).answers n answer :=
  State.post_answers (State.take_memoryCanonical hs q n) n answer none

theorem State.answered_sameBytes (s : State) (q : QueueId) (n : Fin 32) (answer : List Byte) :
    s.sameBytesBut ((s.take q n).post n answer) (fun a => a = cellBase n ∨ inAnswer n a) :=
  ((s.take_sameBytes q n).mono fun _ => .inl).trans ((s.take q n).post_sameBytes n answer)

/-- The end of an event leaves the flags. -/
theorem State.flag_event (t : State) (f : EventFlag) : t.driveNote.settled.flag f = t.flag f := by
  rw [State.flag, State.settled_notice]
  rfl

theorem State.sameFlagsBut.event {s t : State} {l : List EventFlag} (h : s.sameFlagsBut t l) :
    s.sameFlagsBut t.driveNote.settled l := h

/-! ### The cascade (R66, R67) -/

theorem State.advanceSecond_sameBytes (s : State) : s.sameBytesBut s.advanceSecond inMirror := by
  have hmem : (if s.clock.second < 59 then { s with clock := { s.clock with second := s.clock.second + 1 } }
      else ({ s with clock := { s.clock with second := 0 } } : State).advanceMinute).mem = s.mem := by
    split
    · rfl
    · unfold State.advanceMinute
      split
      · rfl
      · rw [State.advanceDay_spec]
        split <;> rfl
  unfold State.advanceSecond
  exact (State.sameBytesBut.of_mem hmem).trans (State.rewriteMirror_sameBytesBut _)

/-- The time one second on, whether the day rose, and what goes with a day that rose. -/
theorem State.advanceSecond_cases {s : State} (hsecond : s.clock.second ≤ 59) (hminute : s.clock.minute ≤ 1439)
    (hday : s.clock.day ≤ 65535) : ∃ day minute second,
      s.advanceSecond.clock = { s.clock with day := day, minute := minute, second := second } ∧
      second ≤ 59 ∧ minute ≤ 1439 ∧ day ≤ 65535 ∧
      (¬ (s.clock.day = 65535 ∧ s.clock.minute = 1439 ∧ s.clock.second = 59) →
        absSecond day minute second = absSecond s.clock.day s.clock.minute s.clock.second + 1) ∧
      (s.clock.day = 65535 → s.clock.minute = 1439 → s.clock.second = 59 → day = 65535 ∧ minute = 0 ∧ second = 0) ∧
      s.advanceSecond.notice.flags =
        (if day ≠ s.clock.day then s.notice.flags ||| EventFlag.dayChange.bit else s.notice.flags) ∧
      s.advanceSecond.deny = if day ≠ s.clock.day then s.deny.dayChange day else s.deny := by
  rw [State.advanceSecond_clock, State.advanceSecond_flags, State.advanceSecond_deny]
  simp only [absSecond]
  by_cases h₁ : s.clock.second < 59
  · refine ⟨s.clock.day, s.clock.minute, s.clock.second + 1, if_pos h₁, by omega, hminute, hday, fun _ => by omega, by omega, ?_, ?_⟩ <;>
      rw [if_neg (by omega), if_neg (by simp)]
  rw [if_neg h₁]
  by_cases h₂ : s.clock.minute < 1439
  · refine ⟨s.clock.day, s.clock.minute + 1, 0, if_pos h₂, by omega, by omega, hday, fun _ => by omega, by omega, ?_, ?_⟩ <;>
      rw [if_neg (by omega), if_neg (by simp)]
  rw [if_neg h₂]
  by_cases h₃ : s.clock.day < 65535
  · refine ⟨s.clock.day + 1, 0, 0, if_pos h₃, by omega, by omega, by omega, fun _ => by omega, by omega, ?_, ?_⟩ <;>
      rw [if_pos (by omega), if_pos (by simp)]
  · refine ⟨s.clock.day, 0, 0, if_neg h₃, by omega, by omega, hday, fun h => absurd ⟨by omega, by omega, by omega⟩ h,
      fun h _ _ => ⟨h, rfl, rfl⟩, ?_, ?_⟩ <;>
      rw [if_neg (by omega), if_neg (by simp)]

/-- The flags after an event that may raise one. -/
theorem State.flag_of_raised {s t : State} {f : EventFlag} {p : Prop} [Decidable p]
    (h : t.notice.flags = if p then s.notice.flags ||| f.bit else s.notice.flags) :
    s.sameFlagsBut t [f] ∧ t.flag f = (s.flag f || decide p) := by
  by_cases hp : p
  · rw [if_pos hp] at h
    have hraise (g : EventFlag) : t.flag g = (s.raise f).flag g := by rw [State.flag, h]; rfl
    refine ⟨fun g hg => (hraise g).trans (s.raise_sameFlagsBut f g hg), ?_⟩
    rw [hraise, State.flag_raise]
    simp [hp]
  · rw [if_neg hp] at h
    have hsame (g : EventFlag) : t.flag g = s.flag g := by rw [State.flag, h]; rfl
    exact ⟨fun g _ => hsame g, by simp [hsame, hp]⟩

theorem exec_second (s : State) {c : Instr} (hc : c = .clk32Edge ∨ c = .secondAdvance) (hdue : s.clock.subSecond = 32767) :
    exec c s = (State.advanceSecond { s with clock := { s.clock.driven with subSecond := 0 } }).event := by
  have hedge : s.clockEdge = State.advanceSecond { s with clock := { s.clock.driven with subSecond := 0 } } := by
    rw [State.clockEdge, if_neg (by simp [hdue, Config.edgesPerSecond])]
  rw [← hedge]
  rcases hc with rfl | rfl
  · rfl
  · exact if_pos (by simp [State.secondDue, hdue, Config.edgesPerSecond])

/-- Settles O16: an edge by whether it completes the second, and the loss timer by the timebase. -/
theorem clockCountsAndIsLost : Obligations.ClockCountsAndIsLost := by
  refine ⟨fun s hsub => ?_, ⟨fun s c hsecond hminute hday hdue hc => ?_, fun s hsub => ?_⟩, fun s htimebase htimer => ?_,
    fun s htimebase => ?_⟩
  · have hedge : s.clockEdge = { s with clock := { s.clock.driven with subSecond := s.clock.subSecond + 1 } } := by
      rw [State.clockEdge, if_pos (by simp only [Config.edgesPerSecond]; omega)]
    show s.clockEdge.event = _
    rw [hedge]
    rfl
  · let u : State := { s with clock := { s.clock.driven with subSecond := 0 } }
    refine ⟨_, exec_second s hc hdue, ?_⟩
    have hbytes := u.advanceSecond_sameBytes
    obtain ⟨day, minute, second, hclock, h₁, h₂, h₃, h₄, h₅, hflags, hdeny⟩ := State.advanceSecond_cases (s := u) hsecond hminute hday
    obtain ⟨m, c, d, F, h⟩ := u.advanceSecond_frame
    rw [h] at hbytes hclock hflags hdeny ⊢
    obtain rfl : c = { u.clock with day := day, minute := minute, second := second } := hclock
    obtain rfl : d = if day ≠ s.clock.day then s.deny.dayChange day else s.deny := hdeny
    obtain ⟨hother, hraised⟩ := State.flag_of_raised hflags
    exact ⟨rfl, h₁, h₂, h₃, h₄, h₅, hother.event, (State.flag_event _ _).trans hraised, rfl, hbytes.event⟩
  · exact if_neg (by simp only [State.secondDue, Config.edgesPerSecond, decide_eq_true_eq]; omega)
  · have hexec : exec .lossTimerExpiry s = s.loseClock.event := if_pos ⟨htimebase, htimer⟩
    let u : State := { s with clock := { s.clock with timebase := .lost, valid := false, lossTimer := false } }
    have hlose : s.loseClock = (u.raise .clockLost).rewriteMirror := rfl
    have hbytes : s.sameBytesBut s.loseClock inMirror :=
      (State.sameBytesBut.of_mem rfl).trans (State.rewriteMirror_sameBytesBut (u.raise .clockLost))
    refine ⟨_, hexec, ?_, ?_, ?_, hbytes.event⟩
    · obtain ⟨m, F, h⟩ := s.loseClock_frame
      rw [h]
      rfl
    · rw [State.flag_event, hlose, State.flag, State.rewriteMirror_notice]
      exact (u.flag_raise .clockLost .clockLost).trans (by simp)
    · refine State.sameFlagsBut.event ?_
      rw [hlose]
      exact u.raise_sameFlagsBut .clockLost
  · exact if_neg fun h => htimebase h.1

/-! ### CLOCK_SET (R70 to R72) -/

theorem exec_clockSet {s : State} {n : Fin 32} (h : s.journeyHead .clockSet = some n) :
    exec .clockSet s = (s.serveClockSet n).event := by
  show execClockSet s = _
  rw [execClockSet, h]

theorem distance_eq (a b : Nat) : distance a b = ((a : Int) - b).natAbs := by
  unfold distance
  omega

theorem State.stepTooLarge_iff (s : State) (r : ClockRequest) : s.stepTooLarge r = true ↔
    s.table.service ≠ .noService ∧ s.clock.valid = true ∧
      600 < ((absSecond s.clock.day s.clock.minute s.clock.second : Int) - absSecond r.day r.minute r.second).natAbs := by
  rw [← distance_eq]
  simp [State.stepTooLarge, Config.trimLimit, and_assoc]

theorem State.clockSetFault_of_accepted {s : State} {r : ClockRequest} (hminute : r.minute ≤ 1439) (hsecond : r.second ≤ 59)
    (hstep : s.table.service = .noService ∨ s.clock.valid = false ∨
      ((absSecond s.clock.day s.clock.minute s.clock.second : Int) - absSecond r.day r.minute r.second).natAbs ≤ 600) :
    s.clockSetFault r = none := by
  have hnot : ¬ s.stepTooLarge r = true := by
    rw [State.stepTooLarge_iff]
    rintro ⟨h₁, h₂, h₃⟩
    rcases hstep with h | h | h
    · exact h₁ h
    · rw [h] at h₂
      cases h₂
    · omega
  rw [State.clockSetFault, if_neg (by omega), if_neg (by omega), if_neg hnot]

theorem State.clockSetFault_of_refused {s : State} {r : ClockRequest} (h : 1439 < r.minute ∨ 59 < r.second ∨
    s.table.service ≠ .noService ∧ s.clock.valid = true ∧
      600 < ((absSecond s.clock.day s.clock.minute s.clock.second : Int) - absSecond r.day r.minute r.second).natAbs) :
    s.clockSetFault r = some (if 1439 < r.minute then (0x41#8, 0x01#8) else if 59 < r.second then (0x41#8, 0x02#8)
      else (0x47#8, 0x00#8)) := by
  rw [← State.stepTooLarge_iff] at h
  unfold State.clockSetFault
  split
  · rfl
  · split
    · rfl
    · rw [if_pos (h.resolve_left (by omega) |>.resolve_left (by omega))]

/-- The clock set, but for the answer (R72). -/
theorem State.setClock_sameBytes (s : State) (r : ClockRequest) : s.sameBytesBut (s.setClock r) inMirror := by
  unfold State.setClock
  dsimp only
  split
  · exact (State.sameBytesBut.of_mem rfl).trans (State.rewriteMirror_sameBytesBut (State.dayChanged _ _))
  · exact (State.sameBytesBut.of_mem rfl).trans (State.rewriteMirror_sameBytesBut { s with clock := _ })

theorem State.setClock_memoryCanonical {s : State} (hs : s.memoryCanonical) (r : ClockRequest) :
    (s.setClock r).memoryCanonical := by
  unfold State.setClock
  dsimp only
  split
  · exact State.rewriteMirror_memoryCanonical (s := State.dayChanged _ _) hs
  · exact State.rewriteMirror_memoryCanonical (s := { s with clock := _ }) hs

/-- Settles O17: the fault of a CLOCK-SET decides between the clock set and the cell answered. -/
theorem clockSetAcceptedOrRefused : Obligations.ClockSetAcceptedOrRefused := by
  refine ⟨fun s n day minute second hs hhead hr hminute hsecond hstep => ?_, fun s n day minute second hs hhead hr hfault => ?_⟩
  · have hkind : s.kindOf n ≠ some .inspect := by rw [(State.head_of_journeyHead hhead).2]; simp
    have hserve : s.serveClockSet n = ((s.take .journey n).setClock (s.clockRequest n)).post n
        (s.clock.setAnswer (Outcome.done, 0#8) (decide (s.clock.day < (s.clockRequest n).day))) := by
      rw [State.serveClockSet, hr, State.clockSetFault_of_accepted (r := ⟨day, minute, second⟩) hminute hsecond hstep]
    rw [hr] at hserve
    let u : State := s.take .journey n
    let r : ClockRequest := { day := day, minute := minute, second := second }
    have hk : (u.setClock r).kindOf n ≠ some .inspect := by
      obtain ⟨m, F, h⟩ := u.setClock_frame r
      rw [h]
      exact fun h => hkind ((s.kindOf_take .journey n n).symm.trans h)
    have hflags : (s.serveClockSet n).notice.flags =
        if s.clock.day < day then s.notice.flags ||| EventFlag.dayChange.bit else s.notice.flags := by
      rw [hserve, State.post_flags]
      exact u.setClock_flags r
    have hanswers : (s.serveClockSet n).answers n ([0x01#8, 0#8] ++ le16 s.clock.day ++ le16 s.clock.minute ++
        [byteOf s.clock.second, flagByte s.clock.valid, flagByte (decide (s.clock.day < day))]) := by
      rw [hserve]
      exact State.post_answers (State.setClock_memoryCanonical (State.take_memoryCanonical hs .journey n) r) n _ none
    have hbytes : s.sameBytesBut (s.serveClockSet n) (fun a => a = cellBase n ∨ inAnswer n a ∨ inMirror a) := by
      rw [hserve]
      refine ((s.take_sameBytes .journey n).mono fun _ => .inl).trans (((u.setClock_sameBytes r).mono fun _ h => .inr (.inr h)).trans
        (((u.setClock r).post_sameBytes n _).mono fun _ h => h.imp_right .inl))
    obtain ⟨hother, hraised⟩ := State.flag_of_raised hflags
    rw [exec_clockSet hhead]
    refine ⟨_, rfl, ?_, hother.event, (State.flag_event _ _).trans hraised, hanswers.event, hbytes.event⟩
    obtain ⟨m, N, hpost⟩ := (u.setClock r).post_frame_of_ne hk (s.clock.setAnswer (Outcome.done, 0#8) (decide (s.clock.day < r.day))) none
    obtain ⟨m', F, hset⟩ := u.setClock_frame r
    obtain ⟨m'', N', htake⟩ := s.take_frame .journey n
    rw [hserve, hpost, hset, show u = _ from htake]
    rfl
  · have hkind : s.kindOf n ≠ some .inspect := by rw [(State.head_of_journeyHead hhead).2]; simp
    have hserve : ∃ r : Reply, s.serveClockSet n = (s.take .journey n).post n (s.clock.setAnswer r false) ∧
        r = (if 1439 < minute then (0x41#8, 0x01#8) else if 59 < second then (0x41#8, 0x02#8) else (0x47#8, 0x00#8)) := by
      refine ⟨_, ?_, rfl⟩
      rw [State.serveClockSet, hr, State.clockSetFault_of_refused (r := ⟨day, minute, second⟩) hfault]
    obtain ⟨r, hserve, hreply⟩ := hserve
    have hanswer : s.clock.setAnswer r false = (if 1439 < minute then [0x41#8, 0x01#8] else if 59 < second then [0x41#8, 0x02#8]
          else [0x47#8, 0x00#8]) ++
        le16 s.clock.day ++ le16 s.clock.minute ++ [byteOf s.clock.second, flagByte s.clock.valid, 0#8] := by
      rw [hreply]
      split
      · rfl
      · split <;> rfl
    rw [exec_clockSet hhead, hserve, ← hanswer]
    refine ⟨_, rfl, ?_, (State.answered_answers hs .journey n _).event, (s.answered_sameBytes .journey n _).event⟩
    obtain ⟨m, N, h⟩ := s.answered_frame .journey hkind (s.clock.setAnswer r false)
    rw [h]
    rfl

end Sys2Proof.Machine
end

section
/-!
The arithmetic of an inspection. A legal ride is an interval of stops, its zones a list without repetition, and the
codes of a mask are read once, as the zone each set bit names (R47 to R53). The field checks of an open are a row
search; no row fails exactly in tables within their ranges (R151), and such tables have a fare that never falls, which
is what the amount of a verdict rests on (R55 to R62). The validity window is classified by the order of its cases (R79).
-/

namespace Sys2Proof.Machine

/-! ### Stops and zones of a ride (R49 to R51) -/

/-- A legal ride goes from the lower stop of the two upward where the direction is UP. -/
theorem Header.le_of_not_behind_of_up {h : Header} {b a : Nat} (hup : h.up = true) (hlegal : h.behind a b = false) :
    b ≤ a := by
  simpa [Header.behind, Header.ahead, hup] using hlegal

/-- A legal ride goes from the higher stop of the two downward where the direction is DOWN. -/
theorem Header.le_of_not_behind_of_down {h : Header} {b a : Nat} (hup : h.up = false)
    (hlegal : h.behind a b = false) : a ≤ b := by
  simpa [Header.behind, Header.ahead, hup] using hlegal

theorem Header.nodup_stopsBetween (h : Header) (b a : Nat) : (h.stopsBetween b a).Nodup := by
  unfold Header.stopsBetween
  split
  · exact List.nodup_range'
  · exact List.nodup_reverse.mpr List.nodup_range'

theorem Header.mem_stopsBetween {h : Header} {b a : Nat} (hlegal : h.behind a b = false) (j : Nat) :
    j ∈ h.stopsBetween b a ↔ min b a ≤ j ∧ j ≤ max b a := by
  unfold Header.stopsBetween
  split
  next hup =>
    have hle := h.le_of_not_behind_of_up hup hlegal
    rw [List.mem_range'_1]
    omega
  next hup =>
    have hle := h.le_of_not_behind_of_down (Bool.not_eq_true _ ▸ hup) hlegal
    rw [List.mem_reverse, List.mem_range'_1]
    omega

theorem Header.length_stopsBetween {h : Header} {b a : Nat} (hlegal : h.behind a b = false) :
    (h.stopsBetween b a).length = max b a - min b a + 1 := by
  unfold Header.stopsBetween
  split
  next hup =>
    have hle := h.le_of_not_behind_of_up hup hlegal
    rw [List.length_range']
    omega
  next hup =>
    have hle := h.le_of_not_behind_of_down (Bool.not_eq_true _ ▸ hup) hlegal
    rw [List.length_reverse, List.length_range']
    omega

theorem Memory.mem_rideZones {m : Memory} {b a : Nat} (hlegal : m.header.behind a b = false) (z : Nat) :
    z ∈ m.rideZones b a ↔ ∃ j, min b a ≤ j ∧ j ≤ max b a ∧ (m.route j).zone = z := by
  simp only [Memory.rideZones, Memory.zonesOf, List.mem_dedup, List.mem_map, Header.mem_stopsBetween hlegal,
    and_assoc]

theorem Memory.length_rideZones_le {m : Memory} {b a : Nat} (hlegal : m.header.behind a b = false) :
    (m.rideZones b a).length ≤ max b a - min b a + 1 := by
  have hle := (List.dedup_sublist ((m.header.stopsBetween b a).map fun j => (m.route j).zone)).length_le
  rwa [List.length_map, Header.length_stopsBetween hlegal] at hle

theorem Memory.rideZones_length_pos {m : Memory} {b a : Nat} (hlegal : m.header.behind a b = false) :
    1 ≤ (m.rideZones b a).length :=
  List.length_pos_of_mem ((Memory.mem_rideZones hlegal _).mpr ⟨min b a, le_rfl, min_le_max, rfl⟩)

theorem countCovered_eq (ride covered : List Nat) :
    countCovered ride covered = (ride.filter fun z => decide (z ∈ covered)).length := by
  simp only [countCovered, List.contains_eq_mem]

/-! ### The covered set of a mask (R47, R48) -/

/-- The zone that a bit of the mask names through its slice. -/
abbrev maskZone (mask : Word) (a b k : Nat) : Option Nat :=
  if mask.getLsbD k then zoneOfCode a b k else none

theorem zoneOfCode_eq_some_iff {a b k z : Nat} :
    zoneOfCode a b k = some z ↔ (if k < 8 then a else b) ≠ 0xFF ∧ z = 8 * (if k < 8 then a else b) + k % 8 := by
  simp only [zoneOfCode, Config.absent]
  split <;> simp_all [eq_comm]

theorem maskZone_eq_some_iff {mask : Word} {a b k z : Nat} :
    maskZone mask a b k = some z ↔
      mask.getLsbD k = true ∧ (if k < 8 then a else b) ≠ 0xFF ∧ z = 8 * (if k < 8 then a else b) + k % 8 := by
  unfold maskZone
  split
  next hbit => simp only [hbit, zoneOfCode_eq_some_iff, true_and]
  next hbit => simp only [hbit, reduceCtorEq, false_and]

theorem mem_coveredZones {mask : Word} {a b z : Nat} :
    z ∈ coveredZones mask a b ↔ ∃ k, k < 16 ∧ mask.getLsbD k = true ∧
      (if k < 8 then a else b) ≠ 0xFF ∧ z = 8 * (if k < 8 then a else b) + k % 8 := by
  simp only [coveredZones, List.mem_dedup, List.mem_filterMap, List.mem_range]
  exact exists_congr fun k => and_congr_right fun _ => maskZone_eq_some_iff

theorem length_coveredZones_le (mask : Word) (a b : Nat) : (coveredZones mask a b).length ≤ 16 :=
  (List.dedup_sublist _).length_le.trans (List.length_filterMap_le _ _)

/-- Through two different slices no two bits name one zone. -/
theorem maskZone_injective {mask : Word} {a b : Nat} (hne : a ≠ b) (j k z : Nat) (hj : z ∈ maskZone mask a b j)
    (hk : z ∈ maskZone mask a b k) : j = k := by
  obtain ⟨hjbit, -, hjz⟩ := maskZone_eq_some_iff.mp hj
  obtain ⟨hkbit, -, hkz⟩ := maskZone_eq_some_iff.mp hk
  have hj16 := BitVec.lt_of_getLsbD hjbit
  have hk16 := BitVec.lt_of_getLsbD hkbit
  split at hjz <;> split at hkz <;> omega

/-- Sixteen zones are covered only where all sixteen bits name a zone, each another. -/
theorem full_of_length_coveredZones {mask : Word} {a b : Nat} (hlen : (coveredZones mask a b).length = 16) :
    (∀ k, k < 16 → mask.getLsbD k = true ∧ (if k < 8 then a else b) ≠ 0xFF) ∧ a ≠ b := by
  have hfilter : ((List.range 16).filterMap (maskZone mask a b)).length = (List.range 16).length := by
    have hle : (coveredZones mask a b).length ≤ ((List.range 16).filterMap (maskZone mask a b)).length :=
      (List.dedup_sublist _).length_le
    have hle' := List.length_filterMap_le (maskZone mask a b) (List.range 16)
    rw [List.length_range] at hle' ⊢
    omega
  refine ⟨fun k hk => ?_, ?_⟩
  · obtain ⟨z, hz⟩ := Option.isSome_iff_exists.mp (List.filterMap_length_eq_length.mp hfilter k (List.mem_range.mpr hk))
    obtain ⟨hbit, hslice, -⟩ := maskZone_eq_some_iff.mp hz
    exact ⟨hbit, hslice⟩
  · rintro rfl
    have hsub : coveredZones mask a a ⊆ List.range' (8 * a) 8 := by
      intro z hz
      obtain ⟨k, -, -, -, rfl⟩ := mem_coveredZones.mp hz
      rw [List.mem_range'_1, ite_self]
      omega
    have hle := ((List.nodup_dedup _).subperm hsub).length_le
    rw [List.length_range'] at hle
    exact absurd (hlen.symm.trans_le hle) (by decide)

theorem length_coveredZones_eq_iff (mask : Word) (a b : Nat) :
    (coveredZones mask a b).length = 16 ↔ mask = 0xFFFF#16 ∧ a ≠ 0xFF ∧ b ≠ 0xFF ∧ a ≠ b := by
  constructor
  · intro hlen
    obtain ⟨hbits, hne⟩ := full_of_length_coveredZones hlen
    refine ⟨BitVec.eq_of_getLsbD_eq fun k hk => ?_, (hbits 0 (by decide)).2, (hbits 8 (by decide)).2, hne⟩
    rw [(hbits k hk).1, show (0xFFFF#16) = BitVec.allOnes 16 from rfl, BitVec.getLsbD_allOnes, decide_eq_true hk]
  · rintro ⟨rfl, ha, hb, hne⟩
    have hall : ∀ k ∈ List.range 16, (maskZone 0xFFFF#16 a b k).isSome = true := by
      intro k hk
      refine Option.isSome_iff_exists.mpr ⟨_, maskZone_eq_some_iff.mpr ⟨?_, ?_, rfl⟩⟩
      · rw [show (0xFFFF#16) = BitVec.allOnes 16 from rfl, BitVec.getLsbD_allOnes,
          decide_eq_true (List.mem_range.mp hk)]
      · split <;> assumption
    have hnodup : ((List.range 16).filterMap (maskZone 0xFFFF#16 a b)).Nodup :=
      List.Nodup.filterMap (maskZone_injective hne) List.nodup_range
    calc (coveredZones 0xFFFF#16 a b).length
        = ((List.range 16).filterMap (maskZone 0xFFFF#16 a b)).length := congrArg _ (List.dedup_eq_self.mpr hnodup)
      _ = 16 := by rw [List.filterMap_length_eq_length.mpr hall, List.length_range]

theorem coveredZones_eq_nil_iff (mask : Word) (a b : Nat) :
    coveredZones mask a b = [] ↔ ∀ k, k < 16 → mask.getLsbD k = true → (if k < 8 then a else b) = 0xFF := by
  rw [List.eq_nil_iff_forall_not_mem]
  constructor
  · intro hnone k hk hbit
    by_contra hslice
    exact hnone _ (mem_coveredZones.mpr ⟨k, hk, hbit, hslice, rfl⟩)
  · rintro habsent z hz
    obtain ⟨k, hk, hbit, hslice, -⟩ := mem_coveredZones.mp hz
    exact hslice (habsent k hk hbit)

/-- Settles O18, by membership: a ride is an interval of stops, the covered set what the set bits name. -/
theorem zonesTranslatedAndCounted : Obligations.ZonesTranslatedAndCounted := by
  unfold Obligations.ZonesTranslatedAndCounted
  refine ⟨fun m b a covered hstops hb ha hlegal => ?_, fun mask a b _ _ => ?_, fun m b a hlegal => ?_⟩
  · have hlen := Memory.length_rideZones_le hlegal
    refine ⟨List.nodup_dedup _, Memory.mem_rideZones hlegal, Memory.rideZones_length_pos hlegal, hlen, by omega,
      countCovered_eq _ _, ?_⟩
    exact List.length_filter_le _ _
  · exact ⟨List.nodup_dedup _, fun _ => mem_coveredZones, length_coveredZones_le mask a b,
      length_coveredZones_eq_iff mask a b, coveredZones_eq_nil_iff mask a b⟩
  · exact ⟨m.header.nodup_stopsBetween b a, Header.mem_stopsBetween hlegal, List.countP_eq_length_filter⟩

/-! ### The field checks (R151) -/

theorem headerRows_pass_iff (h : Header) :
    (∀ r ∈ headerRows h, ¬ r.fails = true) ↔
      1 ≤ h.train ∧ h.direction ≤ 1 ∧ 2 ≤ h.stops ∧ h.stops ≤ 48 ∧ h.dayChange ≤ 359 ∧ h.grace ≤ 30 ∧
        1 ≤ h.rounding ∧ h.rounding ≤ 100 ∧ 1 ≤ h.cap ∧ 1 ≤ h.issuerCount ∧ h.issuerCount ≤ 16 := by
  simp only [headerRows, List.forall_mem_cons, List.not_mem_nil, false_implies, implies_true, and_true,
    decide_eq_true_eq]
  omega

theorem badSlice_eq_true_iff (x : Nat) : badSlice x = true ↔ ¬ (x ≤ 31 ∨ x = 0xFF) := by
  simp only [badSlice, decide_eq_true_eq, Config.absent]
  omega

theorem issuerRows_pass_iff (m : Memory) (j : Nat) :
    (∀ r ∈ issuerRows m j, ¬ r.fails = true) ↔
      (m.issuer j).code ≤ 63 ∧ (m.issuer j).zero = 0 ∧ ((m.issuer j).sliceA ≤ 31 ∨ (m.issuer j).sliceA = 0xFF) ∧
        ((m.issuer j).sliceB ≤ 31 ∨ (m.issuer j).sliceB = 0xFF) ∧
        ∀ i, i < j → (m.issuer i).code ≠ (m.issuer j).code := by
  simp only [issuerRows, List.forall_mem_cons, List.not_mem_nil, false_implies, implies_true, and_true,
    decide_eq_true_eq, Bool.or_eq_true, badSlice_eq_true_iff, List.any_eq_true, List.mem_range, beq_iff_eq,
    not_exists, not_and]
  constructor
  · rintro ⟨hcode, hslices, hzero, hdistinct⟩
    exact ⟨by omega, by omega, by omega, by omega, hdistinct⟩
  · rintro ⟨hcode, hzero, hsliceA, hsliceB, hdistinct⟩
    exact ⟨by omega, by omega, by omega, hdistinct⟩

theorem routeRows_pass_iff (m : Memory) (j : Nat) :
    (∀ r ∈ routeRows m j, ¬ r.fails = true) ↔
      1 ≤ (m.route j).code ∧ (m.route j).code ≤ 0xFFFE ∧ (m.route j).flags.toNat ≤ 1 ∧
        ∀ i, i < j → (m.route i).code ≠ (m.route j).code := by
  have hword : (m.route j).code ≤ Config.wordMax := m.read16_le _
  simp only [Config.wordMax] at hword
  simp only [routeRows, List.forall_mem_cons, List.not_mem_nil, false_implies, implies_true, and_true,
    decide_eq_true_eq, List.any_eq_true, List.mem_range, beq_iff_eq, not_exists, not_and, Config.noneWord]
  constructor
  · rintro ⟨hcode, hdistinct, hflags⟩
    exact ⟨by omega, by omega, by omega, hdistinct⟩
  · rintro ⟨hlow, hhigh, hflags, hdistinct⟩
    exact ⟨by omega, hdistinct, by omega⟩

theorem classRows_pass_iff (m : Memory) :
    (∀ r ∈ classRows m, ¬ r.fails = true) ↔ ∀ c, c < 8 → m.share c ≤ 100 := by
  simp only [classRows, List.forall_mem_map, List.mem_range, decide_eq_true_eq, Nat.not_lt]

theorem fareRows_pass_iff (m : Memory) :
    (∀ r ∈ fareRows m, ¬ r.fails = true) ↔ ∀ x, 2 ≤ x → x ≤ 16 → m.fare (x - 1) ≤ m.fare x := by
  simp only [fareRows, List.forall_mem_map, List.mem_range'_1, decide_eq_true_eq, Nat.not_lt, and_imp]
  exact forall_congr' fun x => imp_congr_right fun _ => imp_congr_left (by omega)

theorem originRow_pass_iff (h : Header) :
    ¬ (originRow h).fails = true ↔ h.origin < h.stops ∧ h.origin ≠ h.terminus := by
  simp only [originRow, decide_eq_true_eq, not_or, Nat.not_le, ne_eq]

/-- The tables as an open accepts them (R151). -/
theorem Memory.fieldFault_eq_none_iff (m : Memory) :
    m.fieldFault = none ↔
      (∀ r ∈ headerRows m.header, ¬ r.fails = true) ∧
      (∀ j, j < m.header.issuerCount → ∀ r ∈ issuerRows m j, ¬ r.fails = true) ∧
      (∀ r ∈ classRows m, ¬ r.fails = true) ∧ (∀ r ∈ fareRows m, ¬ r.fails = true) ∧
      (∀ j, j < m.header.stops → ∀ r ∈ routeRows m j, ¬ r.fails = true) ∧ ¬ (originRow m.header).fails = true := by
  simp only [Memory.fieldFault, Memory.checkRows, List.find?_eq_none, List.forall_mem_append, List.forall_mem_cons,
    List.mem_flatMap, List.mem_range, forall_exists_index, and_imp, List.not_mem_nil, false_implies, implies_true,
    and_true, and_assoc]
  constructor
  · rintro ⟨hheader, hissuers, hclasses, hfares, hroute, horigin⟩
    exact ⟨hheader, fun j hj r hr => hissuers r j hj hr, hclasses, hfares, fun j hj r hr => hroute r j hj hr, horigin⟩
  · rintro ⟨hheader, hissuers, hclasses, hfares, hroute, horigin⟩
    exact ⟨hheader, fun r j hj hr => hissuers j hj r hr, hclasses, hfares, fun r j hj hr => hroute j hj r hr, horigin⟩

/-- A row as the answer of an open reports it: whether it fails, its table, its detail and its entry. -/
def CheckRow.report (r : CheckRow) : Bool × Nat × Nat × Nat :=
  (r.fails, r.table, r.detail.toNat, r.entry)

theorem fieldFault_report (m : Memory) :
    m.fieldFault.map (fun r => (r.table, r.detail.toNat, r.entry)) =
      ((m.checkRows.map CheckRow.report).find? fun r => r.1).map fun r => r.2 := by
  rw [List.find?_map, Option.map_map]
  rfl

theorem headerRows_report (h : Header) : (headerRows h).map CheckRow.report =
    [(decide (h.train = 0), 1, 2, 0), (decide (h.direction ≠ 0 ∧ h.direction ≠ 1), 1, 2, 1),
      (decide (¬ (2 ≤ h.stops ∧ h.stops ≤ 48)), 1, 2, 3), (decide (359 < h.dayChange), 1, 2, 4),
      (decide (30 < h.grace), 1, 2, 5), (decide (¬ (1 ≤ h.rounding ∧ h.rounding ≤ 100)), 1, 2, 6),
      (decide (h.cap = 0), 1, 2, 8), (decide (¬ (1 ≤ h.issuerCount ∧ h.issuerCount ≤ 16)), 1, 2, 9)] := by
  have hdirection : (h.direction ≠ 0 ∧ h.direction ≠ 1) ↔ 1 < h.direction := by omega
  have hstops : ¬ (2 ≤ h.stops ∧ h.stops ≤ 48) ↔ h.stops < 2 ∨ 48 < h.stops := by omega
  have hrounding : ¬ (1 ≤ h.rounding ∧ h.rounding ≤ 100) ↔ h.rounding < 1 ∨ 100 < h.rounding := by omega
  have hissuers : ¬ (1 ≤ h.issuerCount ∧ h.issuerCount ≤ 16) ↔ h.issuerCount < 1 ∨ 16 < h.issuerCount := by omega
  rw [decide_eq_decide.mpr hdirection, decide_eq_decide.mpr hstops, decide_eq_decide.mpr hrounding,
    decide_eq_decide.mpr hissuers]
  rfl

/-- A code repeats an earlier one. -/
theorem any_range_code (j : Nat) (code : Nat → Nat) :
    ((List.range j).any fun i => code i == code j) = decide (∃ i ∈ List.range j, code j = code i) := by
  rw [Bool.eq_iff_iff]
  simp only [List.any_eq_true, beq_iff_eq, decide_eq_true_eq]
  exact exists_congr fun i => and_congr_right fun _ => eq_comm

theorem issuerRows_report (m : Memory) (j : Nat) : (issuerRows m j).map CheckRow.report =
    [(decide (63 < (m.issuer j).code), 2, 2, j),
      (decide (¬ (((m.issuer j).sliceA ≤ 31 ∨ (m.issuer j).sliceA = 0xFF) ∧
        ((m.issuer j).sliceB ≤ 31 ∨ (m.issuer j).sliceB = 0xFF))), 2, 5, j),
      (decide ((m.issuer j).zero ≠ 0), 2, 2, j),
      (decide (∃ i ∈ List.range j, (m.issuer j).code = (m.issuer i).code), 2, 4, j)] := by
  have hslices : (badSlice (m.issuer j).sliceA || badSlice (m.issuer j).sliceB) =
      decide (¬ (((m.issuer j).sliceA ≤ 31 ∨ (m.issuer j).sliceA = 0xFF) ∧
        ((m.issuer j).sliceB ≤ 31 ∨ (m.issuer j).sliceB = 0xFF))) := by
    rw [Bool.eq_iff_iff, Bool.or_eq_true, badSlice_eq_true_iff, badSlice_eq_true_iff, decide_eq_true_eq,
      not_and_or]
  simp only [issuerRows, List.map_cons, List.map_nil, CheckRow.report, hslices,
    any_range_code j fun i => (m.issuer i).code]
  rfl

theorem routeRows_report (m : Memory) (j : Nat) : (routeRows m j).map CheckRow.report =
    [(decide ((m.route j).code = 0 ∨ (m.route j).code = 0xFFFF), 5, 2, j),
      (decide (∃ i ∈ List.range j, (m.route j).code = (m.route i).code), 5, 4, j),
      (decide ((m.route j).flags &&& 0xFE#8 ≠ 0#8), 5, 6, j)] := by
  have hflags : 1 < (m.route j).flags.toNat ↔ (m.route j).flags &&& 0xFE#8 ≠ 0#8 := by
    generalize (m.route j).flags = flags
    revert flags
    decide
  simp only [routeRows, List.map_cons, List.map_nil, CheckRow.report, decide_eq_decide.mpr hflags,
    any_range_code j fun i => (m.route i).code]
  rfl

theorem fareRows_report (m : Memory) : (fareRows m).map CheckRow.report =
    (List.range 15).map fun i => (decide (m.fare (i + 2) < m.fare (i + 1)), 4, 3, i + 1) := by
  rw [fareRows, List.map_map, List.range'_eq_map_range, List.map_map]
  refine List.map_congr_left fun i _ => ?_
  simp only [Function.comp_apply, CheckRow.report, show 2 + i = i + 2 from Nat.add_comm 2 i,
    show i + 2 - 1 = i + 1 from rfl]
  rfl

/-! ### Reading the tables (Table 12-13) -/

theorem Memory.read16_eq (m : Memory) (a : Nat) : m.read16 a = (m.read a).toNat + 256 * (m.read (a + 1)).toNat := by
  simp [Memory.read16, Memory.readList, leValue, List.range_succ]

theorem Header.up_eq (h : Header) : h.up = decide (h.direction = 0) := by
  rw [Header.up, Bool.beq_eq_decide_eq]

theorem Memory.isBoundary_eq (m : Memory) (j : Nat) : m.isBoundary j = decide ((m.route j).flags.toNat % 2 = 1) := by
  rw [Memory.isBoundary, BitVec.getLsbD, Nat.testBit_zero]

/-- Settles O27: the rows report in the order of Table 8-4, each passes exactly in the range it names, and the tables
are read byte by byte. -/
theorem fieldChecksAcceptLegalTables : Obligations.FieldChecksAcceptLegalTables := by
  unfold Obligations.FieldChecksAcceptLegalTables
  refine ⟨fun m => ?_, ?_, ?_⟩
  · rw [m.fieldFault_eq_none_iff]
    simp only [headerRows_pass_iff, issuerRows_pass_iff, classRows_pass_iff, fareRows_pass_iff, routeRows_pass_iff,
      originRow_pass_iff]
  · rintro m h rows rfl rfl
    rw [fieldFault_report]
    simp only [Memory.checkRows, List.map_append, List.map_flatMap, headerRows_report, issuerRows_report,
      routeRows_report, fareRows_report, classRows, List.map_map]
    rfl
  · intro m b w hb hw
    have hread16 : ∀ a, m.read16 a = w a := fun a => by rw [m.read16_eq, hw, hb, hb]
    have hup : m.header.up = decide (b 0x1002 = 0) := by rw [Header.up_eq, hb]; rfl
    refine ⟨?_, ?_, ?_, ?_, ?_, ?_, ?_, ?_, ?_⟩
    · simp only [Memory.header, hread16, hb]
    · simp only [Header.terminus, hup, decide_eq_true_eq, hb 0x1004]
      rfl
    · simp only [Header.next, hup, decide_eq_true_eq, implies_true]
    · simp only [Header.ahead, hup, decide_eq_true_eq, implies_true]
    · exact fun _ _ => rfl
    · intro j
      simp only [Memory.issuer, hb, Config.issuerBase]
    · intro c
      simp only [Memory.share, hb, Config.classBase]
    · intro x
      simp only [Memory.fare, hread16, Config.fareBase]
    · intro j
      refine ⟨hread16 _, (hb _).symm, (hb _).symm, ?_⟩
      rw [Memory.isBoundary_eq, hb]
      rfl

/-! ### The amount (R55 to R62) -/

theorem Memory.fareStar_of_le_sixteen (m : Memory) {x : Nat} (hlow : 1 ≤ x) (hhigh : x ≤ 16) :
    m.fareStar x = m.fare x := by
  rw [Memory.fareStar, if_neg (by omega), if_pos hhigh]

theorem Memory.fareStar_flat (m : Memory) {x : Nat} (h : 16 ≤ x) : m.fareStar x = m.fareStar 16 := by
  rcases Nat.eq_or_lt_of_le h with rfl | hlt
  · rfl
  · rw [Memory.fareStar, if_neg (by omega), if_neg (by omega), m.fareStar_of_le_sixteen (by decide) le_rfl]

/-- Row 14 makes fare* monotone (R55, R151). -/
theorem Memory.fareStar_monotone {m : Memory} (h : m.fieldFault = none) : Monotone m.fareStar := by
  obtain ⟨-, -, -, hfares, -, -⟩ := m.fieldFault_eq_none_iff.mp h
  have hrise := (fareRows_pass_iff m).mp hfares
  refine monotone_nat_of_le_succ fun x => ?_
  by_cases hzero : x = 0
  · rw [hzero]
    exact Nat.zero_le _
  by_cases hflat : 16 ≤ x
  · rw [m.fareStar_flat hflat, m.fareStar_flat (Nat.le_succ_of_le hflat)]
  rw [m.fareStar_of_le_sixteen (by omega) (by omega), m.fareStar_of_le_sixteen (by omega) (by omega)]
  exact hrise (x + 1) (by omega) (by omega)

/-- The amount is held to the cap (R62), a REPEAT's by what was stored. -/
theorem Memory.amount_le_cap {m : Memory} {v : Verdict} {t c cls stored : Nat} (h : stored ≤ m.header.cap) :
    m.amount v t c cls stored ≤ m.header.cap := by
  cases v with
  | valid | validGrace | noService | badRequest | aborted => exact Nat.zero_le _
  | shortfall | noCover | expired | notYetValid | exhausted | revoked | passback | unreadable | notAccepted =>
    exact min_le_right _ _
  | _ => exact h

/-- Settles O20, by the verdict: fare* is monotone step by step, and each verdict's amount is its row of Table 2-3. -/
theorem amountFollowsVerdict : Obligations.AmountFollowsVerdict := by
  unfold Obligations.AmountFollowsVerdict
  refine ⟨fun m h => ?_, fun m v t c cls stored => ?_⟩
  · exact ⟨rfl, fun x hlow hhigh => m.fareStar_of_le_sixteen hlow hhigh, fun x => m.fareStar_flat,
      fun x y hle => Memory.fareStar_monotone h hle⟩
  · refine ⟨fun hv => ?_, ?_, ?_, fun hv => ?_, Memory.amount_le_cap, ?_⟩
    · simp only [List.mem_cons, List.not_mem_nil, or_false] at hv
      rcases hv with rfl | rfl | rfl | rfl | rfl <;> rfl
    · rintro rfl
      rfl
    · rintro rfl
      rfl
    · simp only [List.mem_cons, List.not_mem_nil, or_false] at hv
      rcases hv with rfl | rfl | rfl | rfl | rfl | rfl | rfl | rfl <;> rfl
    · rintro rfl hround hflat
      have hzero : discounted (m.fareStar t - m.fareStar c) (m.share cls) m.header.rounding = 0 :=
        discounted_of_mul_eq_zero hround (by rw [hflat, Nat.sub_self, Nat.zero_mul])
      show min (discounted _ _ _) _ = 0
      rw [hzero, Nat.zero_min]

/-! ### The validity window (R76 to R80) -/

theorem classifyWindow_of_lt {now start stop grace : Nat} (h : now < start) :
    classifyWindow now start stop grace = .notYetValid :=
  if_pos h

theorem classifyWindow_of_inside {now start stop grace : Nat} (hstart : start ≤ now) (hstop : now < stop) :
    classifyWindow now start stop grace = .pass false := by
  rw [classifyWindow, if_neg (Nat.not_lt.mpr hstart), if_pos hstop]

theorem classifyWindow_of_grace {now start stop grace : Nat} (hstart : start ≤ now) (hstop : stop ≤ now)
    (hgrace : now < stop + grace) : classifyWindow now start stop grace = .pass true := by
  rw [classifyWindow, if_neg (Nat.not_lt.mpr hstart), if_neg (Nat.not_lt.mpr hstop), if_pos hgrace]

theorem classifyWindow_of_past {now start stop grace : Nat} (hstart : start ≤ now) (hgrace : stop + grace ≤ now) :
    classifyWindow now start stop grace = .expired 0x01#8 := by
  rw [classifyWindow, if_neg (by omega), if_neg (by omega), if_neg (by omega)]

theorem classifyWindow_zero_ne_grace (now start stop : Nat) : classifyWindow now start stop 0 ≠ .pass true := by
  unfold classifyWindow
  split
  · nofun
  · split
    · nofun
    · rw [if_neg (by omega)]
      nofun

/-- A classified moment: the clock is valid and a CHECKIN tap is not from before the service day. -/
theorem timeStage_of_classified {h : Header} {snap : Snapshot} {k : Ticket} (hvalid : snap.clockValid = true)
    (htap : k.product = 3 → snap.serviceDay * 1440 + h.dayChange ≤ k.startDay * 1440 + k.startMinute) :
    timeStage h snap k = classifyWindow (snap.day * 1440 + snap.minute) (k.startDay * 1440 + k.startMinute)
      (k.windowEnd h.dayChange) h.grace := by
  have hearlier : ¬ (k.product = productCheckin ∧
      absMinute k.startDay k.startMinute < absMinute snap.serviceDay h.dayChange) :=
    fun ⟨hproduct, hlt⟩ => Nat.not_lt.mpr (htap hproduct) hlt
  rw [timeStage, hvalid, if_neg (by decide), if_neg hearlier]
  rfl

theorem Ticket.windowEnd_of_minutes {k : Ticket} (d : Nat) (h : k.product = 3 ∨ k.durationUnit = 0) :
    k.windowEnd d = k.startDay * 1440 + k.startMinute + k.durationAmount := by
  refine if_neg fun ⟨hproduct, hunit⟩ => ?_
  rcases h with h | h
  · exact hproduct h
  · exact absurd (hunit.symm.trans h) (by decide)

theorem serviceDayOf_eq (day minute d : Nat) : serviceDayOf day minute d = if d ≤ minute then day else day - 1 := by
  simp only [serviceDayOf, ← Nat.not_le, ite_not]

theorem Ticket.windowEnd_of_days {k : Ticket} (d : Nat) (hproduct : k.product ≠ 3) (hunit : k.durationUnit = 1) :
    k.windowEnd d =
      ((if d ≤ k.startMinute then k.startDay else k.startDay - 1) + k.durationAmount) * 1440 + d := by
  rw [Ticket.windowEnd, if_pos ⟨hproduct, hunit⟩, serviceDayOf_eq]
  rfl

/-- Settles O21, by the order of the cases of R79 and of the time stage. -/
theorem timeStageJudgesWindow : Obligations.TimeStageJudgesWindow := by
  unfold Obligations.TimeStageJudgesWindow
  refine ⟨fun now start stop grace => ⟨classifyWindow_of_lt, classifyWindow_of_inside, classifyWindow_of_grace,
    classifyWindow_of_past, classifyWindow_zero_ne_grace now start stop⟩, fun h snap k => ⟨?_, ?_, ?_, ?_, ?_⟩⟩
  · intro hinvalid
    rw [timeStage, hinvalid]
    rfl
  · intro hvalid hproduct hearlier
    rw [timeStage, hvalid, if_neg (by decide)]
    exact if_pos ⟨hproduct, hearlier⟩
  · intro hvalid hproduct htap
    rw [timeStage_of_classified hvalid fun _ => htap, Ticket.windowEnd_of_minutes _ (.inl hproduct)]
  · intro hvalid hproduct hunit
    rw [timeStage_of_classified hvalid fun h => absurd h hproduct, Ticket.windowEnd_of_minutes _ (.inr hunit)]
  · intro hvalid hproduct hunit
    rw [timeStage_of_classified hvalid fun h => absurd h hproduct, Ticket.windowEnd_of_days _ hproduct hunit]

end Sys2Proof.Machine
end

section
/-!
The check unit: which command moves its jobs, and what the end of a piece and of a job makes of the state (R163 to
R165). An engine job's result is read stage by stage, a table job's by what the table unit waits for.
-/

namespace Sys2Proof.Machine

/-! ### What brings the two shared units work -/

/-- The commands that bring the check unit a request or end its work, the resets apart. -/
abbrev checkCommands : List Instr :=
  [.inspect, .denyLookup .verdictEngine, .serviceOpen, .denyBatch, .checkJobEnd, .checkPieceEnd]

/-- The commands that bring the deny list unit a request or a DAY_CHANGE, or end its work, the resets apart. -/
abbrev denyCommands : List Instr :=
  [.clk32Edge, .secondAdvance, .clockSet, .denyProbe, .checkJobEnd, .denyLookup .verdictEngine,
    .denyLookup .tableUnit, .add, .delete, .clear, .sweepStep]

/-- Each unit that a command brings no work and ends none begins with it what waited, and no more. -/
def State.unitsAfter (s : State) (c : Instr) (t : State) : Prop :=
  (c ∉ checkCommands → t.check = s.check.choose) ∧ (c ∉ denyCommands → t.deny = s.deny.advance)

theorem State.unitsAfter.event {s u : State} {c : Instr} (hcheck : c ∉ checkCommands → u.check = s.check)
    (hdeny : c ∉ denyCommands → u.deny = s.deny) : s.unitsAfter c u.driveNote.settled :=
  ⟨fun hc => congrArg CheckUnit.choose (hcheck hc), fun hc => congrArg DenyUnit.advance (hdeny hc)⟩

/-- An effect that leaves both units. -/
theorem State.unitsAfter.event_of_same {s u : State} {c : Instr} (hcheck : u.check = s.check) (hdeny : u.deny = s.deny) :
    s.unitsAfter c u.driveNote.settled :=
  .event (fun _ => hcheck) fun _ => hdeny

/-- A command that resets nothing leaves the units' work alone, or is one of those that bring it or end it. -/
theorem Run.unitsAfter {s t : State} {c : Instr} (h : Run s c t) (hreset : c.resets = false) :
    t = s ∨ s.unitsAfter c t := by
  have edited {u : State} (hc : c ∈ denyCommands) (hcheck : u.check = s.check) :
      s.unitsAfter c u.chooseCheck.beginLookup.driveNote :=
    ⟨fun _ => congrArg CheckUnit.choose hcheck, fun hnot => absurd hc hnot⟩
  cases h with
  | absent => exact .inl rfl
  | powerOn => cases hreset
  | @access c a data lanes hc =>
    refine .inr ?_
    rcases s.access_cases a data lanes with ⟨-, h⟩ | ⟨rfl, h⟩ | ⟨-, h⟩ | ⟨-, h⟩ | ⟨-, -, -, -, h⟩ <;> rw [h]
    · obtain ⟨m, q, F, N, h⟩ := s.writeMemoryWord_frame a data lanes
      exact .event_of_same (by rw [h]) (by rw [h])
    · have hw : resetWrite data lanes = false := by
        rwa [resets_of_hostAccess hc, decide_eq_true rfl, Bool.true_and] at hreset
      rw [State.writeEngControl_of_not_resetWrite _ hw]
      exact .event_of_same rfl rfl
    · obtain ⟨m, h⟩ := s.clearEvents_frame data lanes
      exact .event_of_same (by rw [h]) (by rw [h])
    · exact .event_of_same rfl rfl
    · exact .event_of_same rfl rfl
  | ignored => exact .inr ⟨fun _ => rfl, fun _ => rfl⟩
  | mirrorRead => exact .inr ⟨fun _ => rfl, fun _ => rfl⟩
  | clockEdge hc =>
    obtain ⟨m, k, d, F, h⟩ := s.clockEdge_frame
    exact .inr (.event (fun _ => by rw [h]) fun hnot => absurd (by rcases hc with rfl | rfl <;> simp) hnot)
  | loseClock =>
    obtain ⟨m, F, h⟩ := s.loseClock_frame
    exact .inr (.event_of_same (by rw [h]) (by rw [h]))
  | @inspect n =>
    obtain ⟨f, -, -, -, -, h⟩ := (s.take .inspection n).beginInspection_spec n
    refine .inr (.event (fun hnot => absurd (by simp) hnot) fun _ => ?_)
    rw [h, State.take_inspection_eq]
  | @inspectCompletion f v =>
    obtain ⟨m, r, l, F, N, h⟩ := s.completeInspection_frame f v
    exact .inr (.event_of_same (by rw [h]) (by rw [h]))
  | checkJobEnd => exact .inr ⟨fun hnot => absurd (by simp) hnot, fun hnot => absurd (by simp) hnot⟩
  | checkPieceEnd =>
    obtain ⟨u, h⟩ := s.chooseCheck.endPiece_frame
    exact .inr (.event (fun hnot => absurd (by simp) hnot) fun _ => by rw [h]; rfl)
  | engineLookup => exact .inr ⟨fun hnot => absurd (by simp) hnot, fun hnot => absurd (by simp) hnot⟩
  | probeLookup =>
    obtain ⟨m, u, N, h⟩ := s.serveProbe_frame _
    exact .inr (.event (fun _ => by rw [h]) fun hnot => absurd (by simp) hnot)
  | @add media reason expiry =>
    obtain ⟨m, u, d, F, N, h⟩ := s.applyAdd_frame media reason expiry
    exact .inr (edited (by simp) (by rw [h]))
  | @delete media =>
    obtain ⟨m, u, d, N, h⟩ := s.applyDelete_frame media
    exact .inr (edited (by simp) (by rw [h]))
  | clear =>
    obtain ⟨m, u, d, N, h⟩ := s.applyClear_frame
    exact .inr (edited (by simp) (by rw [h]))
  | sweepStep =>
    obtain ⟨m, h⟩ := s.applySweepStep_frame
    exact .inr (.event (fun _ => by rw [h]) fun hnot => absurd (by simp) hnot)
  | @depart n =>
    obtain ⟨m, k, N, h⟩ := s.serveDepart_frame n
    exact .inr (.event_of_same (by rw [h]) (by rw [h]))
  | @arrive n =>
    obtain ⟨m, k, p, r, cap, v, l, F, N, h⟩ := s.serveArrive_frame n
    exact .inr (.event_of_same (by rw [h]) (by rw [h]))
  | @pass n =>
    obtain ⟨m, p, r, cap, l, F, N, h⟩ := s.servePass_frame n
    exact .inr (.event_of_same (by rw [h]) (by rw [h]))
  | @set n =>
    obtain ⟨m, k, p, v, F, N, h⟩ := s.serveSet_frame n
    exact .inr (.event_of_same (by rw [h]) (by rw [h]))
  | @badEvent n =>
    obtain ⟨m, N, h⟩ := s.serveBadEvent_frame n
    exact .inr (.event_of_same (by rw [h]) (by rw [h]))
  | @clockSet n =>
    obtain ⟨m, k, d, F, N, h⟩ := s.serveClockSet_frame n
    exact .inr (.event (fun _ => by rw [h]) fun hnot => absurd (by simp) hnot)
  | @serviceOpen n =>
    obtain ⟨m, u, j, N, h⟩ := s.chooseCheck.takeOpen_frame n
    refine .inr ⟨fun hnot => absurd (by simp) hnot, fun _ => ?_⟩
    rw [h]
    rfl
  | @serviceOpenCompletion n =>
    obtain ⟨m, F, N, h⟩ := s.completeOpen_frame n
    exact .inr (.event_of_same (by rw [h]) (by rw [h]))
  | @serviceClose n =>
    obtain ⟨m, j, u, l, F, N, h⟩ := s.takeClose_frame n
    exact .inr (.event_of_same (by rw [h]) (by rw [h]))
  | @serviceCloseCompletion n =>
    obtain ⟨m, F, N, h⟩ := s.completeClose_frame n
    exact .inr (.event_of_same (by rw [h]) (by rw [h]))
  | @denyBatch n =>
    obtain ⟨m, u, j, N, h⟩ := s.chooseCheck.takeBatch_frame n
    refine .inr ⟨fun hnot => absurd (by simp) hnot, fun _ => ?_⟩
    rw [h]
    rfl
  | @denyProbe n =>
    obtain ⟨m, N, h⟩ := s.takeProbe_frame n
    exact .inr (.event (fun _ => by rw [h]) fun hnot => absurd (by simp) hnot)

theorem unitsAfter_of_exec {s t : State} {c : Instr} (h : exec c s = .next t) (hreset : c.resets = false) :
    t = s ∨ s.unitsAfter c t :=
  (run_of_exec h).unitsAfter hreset

/-! ### The end of a piece (R164) -/

/-- What the unit serves next, free, with a table-unit job at a remainder. -/
theorem CheckUnit.choose_of_tableJob (u : CheckUnit) (j : TableJob) :
    CheckUnit.choose { u with serving := none, tableJob := some j } = { u with
      serving := some (if u.engineJob.isSome then { owner := .verdictEngine, remainder := 0xFFFF#16 }
        else { owner := .tableUnit, remainder := j.remainder })
      tableJob := some j } := by
  obtain ⟨w, _ | run, i⟩ := u <;> rfl

theorem State.endPiece_of_job {s : State} {j : TableJob} {r : Word}
    (hserving : s.check.serving = some { owner := .tableUnit, remainder := r }) (hjob : s.check.tableJob = some j) :
    s.endPiece = { s with check := CheckUnit.choose { s.check with
      serving := none
      tableJob := some { j with position := j.position + Config.pieceSize, remainder := s.pieceRemainder j r } } } := by
  unfold State.endPiece
  rw [hserving, hjob]

/-- The end of an event drives NOTE_N and lets the free units begin. -/
theorem State.ended_eq (u : State) : u.driveNote.settled = { u with
    check := u.check.choose
    deny := u.deny.advance
    notice := { u.notice with noteN := !u.driveNote.settled.anyPending } } := by
  rw [State.settled_anyPending]
  rfl

theorem pieceEnd_suspends {s : State} {j : TableJob} {r : Word}
    (hserving : s.check.choose.serving = some { owner := .tableUnit, remainder := r })
    (hjob : s.check.tableJob = some j) (hlong : 64 < j.length - j.position) :
    exec .checkPieceEnd s = State.event { s with check := { s.check with
      tableJob := some { j with
        position := j.position + 64
        remainder := checkFrom r (s.mem.readList (j.base + j.position) 64) }
      serving := some (if s.check.engineJob.isSome then { owner := .verdictEngine, remainder := 0xFFFF#16 }
        else { owner := .tableUnit, remainder := checkFrom r (s.mem.readList (j.base + j.position) 64) }) } } := by
  have hjob' : s.check.choose.tableJob = some j := by rw [CheckUnit.choose_tableJob, hjob]
  have hlast : j.lastPiece = false := decide_eq_false (Nat.not_le.mpr hlong)
  have hdue : s.check.choose.pieceEndDue = true := by
    simp only [CheckUnit.pieceEndDue, hserving, hjob', hlast, Bool.not_false]
  have hlength : j.pieceLength = 64 := by
    simp only [TableJob.pieceLength, Config.pieceSize]
    omega
  show execCheckPieceEnd s = _
  rw [execCheckPieceEnd, if_pos hdue, State.endPiece_of_job hserving hjob', CheckUnit.choose_of_tableJob,
    State.pieceRemainder, hlength, State.chooseCheck_check, CheckUnit.choose_engineJob]
  rfl

/-- Settles O24: the choice of R164, the commands that leave the jobs alone, and the suspension of a piece. -/
theorem pieceEndSuspendsJob : Obligations.PieceEndSuspendsJob := by
  unfold Obligations.PieceEndSuspendsJob
  refine ⟨CheckUnit.choose_spec, fun c s t h hreset hc => ?_, fun s j r hserving hjob hlong => ?_⟩
  · exact (unitsAfter_of_exec h hreset).imp_right fun hunits => hunits.1 hc
  · refine ⟨_, pieceEnd_suspends hserving hjob hlong, (State.ended_eq _).trans ?_⟩
    rw [CheckUnit.choose_of_serving (by rfl)]
    rfl

/-! ### The end of an engine job (R21, R22, R163) -/

/-- The work in service is an engine job, whose end frees the unit for a waiting table-unit job. -/
theorem State.endJob_of_engine {s : State} {run : List Byte} {r : Word}
    (hserving : s.check.choose.serving = some { owner := .verdictEngine, remainder := r })
    (hrun : s.check.engineJob = some run) :
    exec .checkJobEnd s = .next
      ((s.checkFreed none s.check.tableJob).engineResult (checkFrom r run)).advanceDeny.driveNote := by
  have hrun' : s.check.choose.engineJob = some run := by rw [CheckUnit.choose_engineJob, hrun]
  have hdue : s.check.choose.jobEndDue = true := by rw [CheckUnit.jobEndDue, hserving, hrun']
  have hend : s.chooseCheck.endJob = (s.checkFreed none s.check.tableJob).engineResult (checkFrom r run) := by
    unfold State.endJob
    rw [State.chooseCheck_check, hserving, hrun']
    simp only [CheckUnit.choose_tableJob, State.checkFreed]
    rfl
  show execCheckJobEnd s = _
  rw [execCheckJobEnd, if_pos hdue, hend]
  rfl

theorem State.checkFreed_eq_of_engine (s : State) : s.checkFreed none s.check.tableJob = { s with check := { s.check with
    serving := s.check.tableJob.map fun j => { owner := .tableUnit, remainder := j.remainder }
    engineJob := none } } := by
  rw [State.checkFreed, State.chooseCheck, CheckUnit.choose_spec]
  rfl

theorem State.engineResult_of_integrity {s : State} {f : Flight} (hflight : s.engine.flight = some f)
    (hstage : f.stage = .integrity) (residue : Word) : s.engineResult residue = s.afterImageCheck f residue := by
  rw [State.engineResult, hflight]
  dsimp only
  rw [hstage]

theorem State.engineResult_of_composing {s : State} {f : Flight} {v : Verdict} (hflight : s.engine.flight = some f)
    (hstage : f.stage = .composing v) (w : Word) : s.engineResult w =
      s.setFlight { f with stage := .judged v, image := f.image.map fun img => sealImage img w } := by
  rw [State.engineResult, hflight]
  dsimp only
  rw [hstage]

theorem State.afterImageCheck_of_residue (s : State) (f : Flight) {residue : Word} (h : residue ≠ 0#16) :
    s.afterImageCheck f residue = s.setFlight { f with stage := .judged .unreadable, detail := 0x02#8 } :=
  if_pos h

theorem State.afterImageCheck_of_insane (s : State) (f : Flight)
    (hsane : (Ticket.ofImage (s.cellBody f.cell)).sane = false) :
    s.afterImageCheck f 0#16 = s.setFlight { f with stage := .judged .unreadable, detail := 0x03#8 } := by
  rw [State.afterImageCheck, if_neg (by decide), hsane]
  rfl

theorem State.afterImageCheck_of_no_issuer (s : State) (f : Flight)
    (hsane : (Ticket.ofImage (s.cellBody f.cell)).sane = true)
    (hissuer : s.mem.findIssuer (Ticket.ofImage (s.cellBody f.cell)).issuer = none) :
    s.afterImageCheck f 0#16 =
      s.setFlight { f with sane := true, stage := .judged .notAccepted, detail := 0#8 } := by
  rw [State.afterImageCheck, if_neg (by decide), hsane, hissuer]
  rfl

theorem State.afterImageCheck_of_issuer (s : State) (f : Flight) {e : IssuerEntry}
    (hsane : (Ticket.ofImage (s.cellBody f.cell)).sane = true)
    (hissuer : s.mem.findIssuer (Ticket.ofImage (s.cellBody f.cell)).issuer = some e) :
    s.afterImageCheck f 0#16 =
      (s.setFlight { f with sane := true, slices := some (e.sliceA, e.sliceB), stage := .deny }).askEngineLookup
        (Ticket.ofImage (s.cellBody f.cell)).mediaId f.snap.day := by
  rw [State.afterImageCheck, if_neg (by decide), hsane, hissuer]
  rfl

/-- The state after an engine job: the flight goes on, a lookup may be asked for, and the unit serves what waits. -/
theorem engineJobEnd_eq {s t : State} {g : Flight} {lookup : Option (Nat × Nat)}
    (h : t = State.driveNote (State.advanceDeny { s.checkFreed none s.check.tableJob with
      engine := { s.engine with flight := some g }
      deny := { s.deny with engineLookup := lookup } })) :
    t = { s.settled with
      engine := { s.engine with flight := some g }
      check := { s.check with
        serving := s.check.tableJob.map fun j => { owner := .tableUnit, remainder := j.remainder }
        engineJob := none }
      deny := DenyUnit.advance { s.deny with engineLookup := lookup }
      notice := { s.notice with noteN := !t.anyPending } } := by
  have hnote : t.notice.noteN = !t.anyPending := by rw [h]; rfl
  rw [← hnote, h, State.checkFreed_eq_of_engine]
  rfl

/-- Where the image check's result leads: the flight and the lookup asked for. -/
theorem State.afterImageCheck_eq (s : State) (f : Flight) (residue : Word) : ∃ g lookup,
    s.afterImageCheck f residue = { s with
      engine := { s.engine with flight := some g }
      deny := { s.deny with engineLookup := lookup } } ∧
    (residue ≠ 0#16 → g = { f with stage := .judged .unreadable, detail := 0x02#8 } ∧ lookup = s.deny.engineLookup) ∧
    (residue = 0#16 → (Ticket.ofImage (s.cellBody f.cell)).sane = false →
      g = { f with stage := .judged .unreadable, detail := 0x03#8 } ∧ lookup = s.deny.engineLookup) ∧
    (residue = 0#16 → (Ticket.ofImage (s.cellBody f.cell)).sane = true →
      s.mem.findIssuer (Ticket.ofImage (s.cellBody f.cell)).issuer = none →
      g = { f with sane := true, stage := .judged .notAccepted, detail := 0#8 } ∧ lookup = s.deny.engineLookup) ∧
    (∀ e, residue = 0#16 → (Ticket.ofImage (s.cellBody f.cell)).sane = true →
      s.mem.findIssuer (Ticket.ofImage (s.cellBody f.cell)).issuer = some e →
      g = { f with sane := true, slices := some (e.sliceA, e.sliceB), stage := .deny } ∧
      lookup = some ((Ticket.ofImage (s.cellBody f.cell)).mediaId, f.snap.day)) := by
  by_cases hresidue : residue = 0#16
  case neg =>
    rw [s.afterImageCheck_of_residue f hresidue]
    exact ⟨_, _, rfl, fun _ => ⟨rfl, rfl⟩, fun h => absurd h hresidue, fun h => absurd h hresidue,
      fun _ h => absurd h hresidue⟩
  subst hresidue
  cases hsane : (Ticket.ofImage (s.cellBody f.cell)).sane with
  | false =>
    rw [s.afterImageCheck_of_insane f hsane]
    exact ⟨_, _, rfl, fun h => absurd rfl h, fun _ _ => ⟨rfl, rfl⟩, nofun, nofun⟩
  | true =>
    cases hissuer : s.mem.findIssuer (Ticket.ofImage (s.cellBody f.cell)).issuer with
    | none =>
      rw [s.afterImageCheck_of_no_issuer f hsane hissuer]
      exact ⟨_, _, rfl, fun h => absurd rfl h, nofun, fun _ _ _ => ⟨rfl, rfl⟩, nofun⟩
    | some e =>
      rw [s.afterImageCheck_of_issuer f hsane hissuer]
      refine ⟨_, _, rfl, fun h => absurd rfl h, nofun, nofun, ?_⟩
      rintro _ - - ⟨⟩
      exact ⟨rfl, rfl⟩

/-! ### The fields of an image (Tables 1-1, 12-1) -/

theorem Ticket.sane_iff (k : Ticket) : k.sane = true ↔
    k.issuer ≤ 63 ∧ (k.product = 1 ∨ k.product = 2 ∨ k.product = 3) ∧ k.startMinute ≤ 1439 ∧
      (k.durationUnit = 0 ∨ k.durationUnit = 1) ∧ (k.markTrain = 0 ∨ k.markMinute ≤ 1439) := by
  simp only [Ticket.sane, Bool.and_eq_true, decide_eq_true_eq, productRides, productPeriod, productCheckin, and_assoc]

theorem Memory.findIssuer_eq_some_iff (m : Memory) (code : Nat) (e : IssuerEntry) : m.findIssuer code = some e ↔
    ∃ j, j < m.header.issuerCount ∧ m.issuer j = e ∧ e.code = code ∧ ∀ i, i < j → (m.issuer i).code ≠ code := by
  rw [Memory.findIssuer, List.find?_map, Option.map_eq_some_iff]
  refine exists_congr fun j => ?_
  rw [List.find?_range_eq_some]
  simp only [Function.comp_apply, beq_iff_eq, List.mem_range, Bool.not_eq_true', beq_eq_false_iff_ne]
  constructor
  · rintro ⟨⟨hcode, hj, hleast⟩, rfl⟩
    exact ⟨hj, rfl, hcode, hleast⟩
  · rintro ⟨hj, rfl, hcode, hleast⟩
    exact ⟨⟨hcode, hj, hleast⟩, rfl⟩

/-- A field's bytes, one by one. -/
theorem imageField_eq {img : List Byte} {i n : Nat} (h : i + n ≤ img.length) :
    imageField img i n = beValue ((List.range n).map fun k => img.getD (i + k) 0#8) := by
  rw [imageField]
  congr 1
  refine List.ext_getElem (by simp; omega) fun k hk _ => ?_
  have hk' : i + k < img.length := by simp at hk; omega
  simp [hk']

theorem Ticket.ofImage_fields {img : List Byte} {b w : Nat → Nat} (hlength : img.length = 32)
    (hb : ∀ i, b i = (img.getD i 0#8).toNat) (hw : ∀ i, w i = 256 * b i + b (i + 1)) :
    Ticket.ofImage img = {
      layout := b 0, issuer := b 1, product := b 2, fareClass := b 3
      mediaId := ((((((b 4 * 256 + b 5) * 256 + b 6) * 256 + b 7) * 256 + b 8) * 256 + b 9) * 256 + b 10)
      zoneMask := BitVec.ofNat 16 (w 11), startDay := w 13, startMinute := w 15, durationUnit := b 17
      durationAmount := w 18, ridesRemaining := b 20, checkinStop := w 21, markTrain := w 23, markDay := w 25
      markMinute := w 27, markSequence := b 29 } := by
  have one (i : Nat) (h : i + 1 ≤ 32) : imageField img i 1 = b i := by
    rw [imageField_eq (hlength ▸ h), hb]
    simp [beValue, leValue]
  have two (i : Nat) (h : i + 2 ≤ 32) : imageField img i 2 = w i := by
    rw [imageField_eq (hlength ▸ h), hw, hb, hb]
    simp [beValue, leValue, List.range_succ]
    omega
  have seven : imageField img 4 7 =
      ((((((b 4 * 256 + b 5) * 256 + b 6) * 256 + b 7) * 256 + b 8) * 256 + b 9) * 256 + b 10) := by
    rw [imageField_eq (by omega)]
    simp only [hb, beValue, leValue, List.range_succ, List.range_zero, List.map_cons, List.map_nil,
      List.nil_append, List.cons_append, List.reverse_cons, List.reverse_nil, Nat.reduceAdd, Nat.add_zero]
    omega
  simp only [Ticket.ofImage, one _ (show 0 + 1 ≤ 32 by decide), one _ (show 1 + 1 ≤ 32 by decide),
    one _ (show 2 + 1 ≤ 32 by decide), one _ (show 3 + 1 ≤ 32 by decide), one _ (show 17 + 1 ≤ 32 by decide),
    one _ (show 20 + 1 ≤ 32 by decide), one _ (show 29 + 1 ≤ 32 by decide), two _ (show 11 + 2 ≤ 32 by decide),
    two _ (show 13 + 2 ≤ 32 by decide), two _ (show 15 + 2 ≤ 32 by decide), two _ (show 18 + 2 ≤ 32 by decide),
    two _ (show 21 + 2 ≤ 32 by decide), two _ (show 23 + 2 ≤ 32 by decide), two _ (show 25 + 2 ≤ 32 by decide),
    two _ (show 27 + 2 ≤ 32 by decide), seven]

/-- Settles O25: the image check by its outcomes, the compose job's check word, and the fields of an image. -/
theorem imageCheckEndJudges : Obligations.ImageCheckEndJudges := by
  unfold Obligations.ImageCheckEndJudges
  refine ⟨fun s f run r hserving hrun hflight hstage => ?_, fun s f v run r w hserving hrun hflight hstage hw => ?_,
    Ticket.sane_iff, Memory.findIssuer_eq_some_iff, fun img b w hlength hb hw => Ticket.ofImage_fields hlength hb hw⟩
  · obtain ⟨g, lookup, hafter, hresidue, hinsane, hissuer, hfound⟩ :=
      (s.checkFreed none s.check.tableJob).afterImageCheck_eq f (checkFrom r run)
    have kept (h : lookup = s.deny.engineLookup) :
        DenyUnit.advance { s.deny with engineLookup := lookup } = s.deny.advance := by rw [h]
    have hexec := State.endJob_of_engine hserving hrun
    rw [State.engineResult_of_integrity (s := s.checkFreed none s.check.tableJob) hflight hstage, hafter] at hexec
    refine ⟨_, g, hexec, rfl, ?_, fun h => ?_, fun h₁ h₂ => ?_, fun h₁ h₂ h₃ => ?_, fun e h₁ h₂ h₃ => ?_⟩
    · generalize ht : State.driveNote _ = t
      have hlookup : t.deny.engineLookup = lookup := by
        rw [← ht]
        exact DenyUnit.advance_engineLookup _
      rw [hlookup]
      exact engineJobEnd_eq ht.symm
    · exact (hresidue h).imp_right kept
    · exact (hinsane h₁ h₂).imp_right kept
    · exact (hissuer h₁ h₂ h₃).imp_right kept
    · exact (hfound e h₁ h₂ h₃).imp_right (DenyUnit.advance_engineLookup _).trans
  · subst hw
    have hexec := State.endJob_of_engine hserving hrun
    rw [State.engineResult_of_composing (s := s.checkFreed none s.check.tableJob) hflight hstage] at hexec
    refine ⟨_, _, hexec, rfl, ?_, fun himage => ?_, fun img himage => ?_⟩
    · exact engineJobEnd_eq (s := s) (lookup := s.deny.engineLookup)
        (g := { f with stage := .judged v, image := f.image.map fun img => sealImage img (checkFrom r run) }) rfl
    · show f.image.map _ = none
      rw [himage]
      rfl
    · show f.image.map _ = _
      rw [himage]
      rfl

end Sys2Proof.Machine
end

section
/-!
The table unit (chapter 8, and the requests of chapter 6 that it serves). First what an answer of the unit leaves, alone
and together with a change of the service state; then the ends of its check jobs, the open, the close, the batch's range
check and the probe.
-/

namespace Sys2Proof.Machine

/-! ### The answers of the table unit (R180) -/

theorem TableUnit.released_of_free {u : TableUnit} (h : u.held = none) : { u with held := none } = u := by
  obtain ⟨service, held⟩ := u
  obtain rfl : held = none := h
  rfl

theorem State.finishTable_frame_of_ne (s : State) {n : Fin 32} (hk : s.kindOf n ≠ some .inspect) (answer : List Byte) :
    ∃ m N, s.finishTable n answer =
      { s with mem := m, table := { s.table with held := none }, notice := s.notice.withCounts N } :=
  State.post_frame_of_ne { s with table := { s.table with held := none } } hk answer none

theorem State.finishTable_answers {s : State} (hs : s.memoryCanonical) (n : Fin 32) (answer : List Byte) :
    (s.finishTable n answer).answers n answer :=
  State.post_answers (s := { s with table := { s.table with held := none } }) hs n answer none

theorem State.finishTable_sameBytes (s : State) (n : Fin 32) (answer : List Byte) :
    s.sameBytesBut (s.finishTable n answer) (fun a => a = cellBase n ∨ inAnswer n a) :=
  State.post_sameBytes { s with table := { s.table with held := none } } n answer

/-- A request that a free table unit answers at its take changes its cell, its queue and the counts. -/
theorem State.refused_frame {s : State} (hfree : s.table.held = none) {n : Fin 32} (hk : s.kindOf n ≠ some .inspect)
    (answer : List Byte) : ∃ m N, (s.take .table n).finishTable n answer = { s with
      mem := m, intake := { s.intake with table := s.intake.table.tail }, notice := s.notice.withCounts N } := by
  obtain ⟨m, N, hfinish⟩ := (s.take .table n).finishTable_frame_of_ne (by rwa [State.kindOf_take]) answer
  obtain ⟨m', N', htake⟩ := s.take_frame .table n
  refine ⟨m, N, ?_⟩
  rw [hfinish, htake]
  show ({ s with mem := _, intake := _, table := { s.table with held := none }, notice := _ } : State) = _
  rw [TableUnit.released_of_free hfree]
  rfl

theorem State.refused_answers {s : State} (hs : s.memoryCanonical) (n : Fin 32) (answer : List Byte) :
    ((s.take .table n).finishTable n answer).answers n answer :=
  State.finishTable_answers (State.take_memoryCanonical hs .table n) n answer

theorem State.refused_sameBytes (s : State) (n : Fin 32) (answer : List Byte) :
    s.sameBytesBut ((s.take .table n).finishTable n answer) (fun a => a = cellBase n ∨ inAnswer n a) :=
  ((s.take_sameBytes .table n).mono fun _ => .inl).trans ((s.take .table n).finishTable_sameBytes n answer)

theorem State.enterService_frame (s : State) (service : ServiceState) : ∃ m, s.enterService service =
    { s with mem := m, table := { s.table with service := service } } :=
  ⟨_, State.rewriteMirror_eq { s with table := { s.table with service := service } }⟩

theorem State.enterService_sameBytes (s : State) (service : ServiceState) :
    s.sameBytesBut (s.enterService service) inMirror :=
  State.rewriteMirror_sameBytesBut { s with table := { s.table with service := service } }

theorem State.enterService_memoryCanonical {s : State} (hs : s.memoryCanonical) (service : ServiceState) :
    (s.enterService service).memoryCanonical :=
  State.rewriteMirror_memoryCanonical (s := { s with table := { s.table with service := service } }) hs

/-- An answer that goes with a change of the service state. -/
theorem State.entered_frame (s : State) (service : ServiceState) {n : Fin 32} (hk : s.kindOf n ≠ some .inspect)
    (answer : List Byte) : ∃ m N, (s.enterService service).finishTable n answer = { s with
      mem := m, table := { service := service, held := none }, notice := s.notice.withCounts N } := by
  obtain ⟨m, henter⟩ := s.enterService_frame service
  have hk' : (s.enterService service).kindOf n ≠ some .inspect := by rw [henter]; exact hk
  obtain ⟨m', N, hfinish⟩ := (s.enterService service).finishTable_frame_of_ne hk' answer
  exact ⟨m', N, by rw [hfinish, henter]⟩

theorem State.entered_answers {s : State} (hs : s.memoryCanonical) (service : ServiceState) (n : Fin 32)
    (answer : List Byte) : ((s.enterService service).finishTable n answer).answers n answer :=
  State.finishTable_answers (State.enterService_memoryCanonical hs service) n answer

theorem State.entered_sameBytes (s : State) (service : ServiceState) (n : Fin 32) (answer : List Byte) :
    s.sameBytesBut ((s.enterService service).finishTable n answer)
      (fun a => a = cellBase n ∨ inAnswer n a ∨ inMirror a) :=
  ((s.enterService_sameBytes service).mono fun _ h => .inr (.inr h)).trans
    (((s.enterService service).finishTable_sameBytes n answer).mono fun _ h => h.imp_right .inl)

/-- Zeros at the end of an answer say nothing (R180). -/
theorem State.answers.of_append_zeros {t : State} {n : Fin 32} {answer : List Byte} {k : Nat}
    (h : t.answers n (answer ++ List.replicate k 0#8)) : t.answers n answer := by
  refine ⟨h.1, fun i hi => (h.2 i hi).trans ?_⟩
  by_cases hlt : i < answer.length
  · rw [List.getD_append _ _ _ _ hlt]
  · rw [List.getD_append_right _ _ _ _ (by omega), List.getD_eq_default answer _ (by omega)]
    by_cases hk : i - answer.length < k
    · rw [List.getD_eq_getElem _ _ (by rwa [List.length_replicate]), List.getElem_replicate]
    · exact List.getD_eq_default _ _ (by rw [List.length_replicate]; omega)

/-- The flags after an event that clears one. -/
theorem State.flag_of_cleared {s t : State} {f : EventFlag} (h : t.notice.flags = s.notice.flags &&& ~~~ f.bit) :
    s.sameFlagsBut t [f] ∧ t.flag f = false := by
  have hclear (g : EventFlag) : t.flag g = (s.clearFlag f).flag g := by rw [State.flag, h]; rfl
  refine ⟨fun g hg => (hclear g).trans (s.clearFlag_sameFlagsBut f g hg), ?_⟩
  rw [hclear, State.flag_clearFlag]
  simp

/-! ### The end of a table check (R150 to R152) -/

/-- The work in service is the last piece of a table-unit job, whose end frees the unit for a waiting engine job. -/
theorem State.endJob_of_table {s : State} {j : TableJob} {r : Word}
    (hserving : s.check.choose.serving = some { owner := .tableUnit, remainder := r })
    (hjob : s.check.tableJob = some j) (hlast : j.length - j.position ≤ 64) :
    exec .checkJobEnd s = .next ((s.checkFreed s.check.engineJob none).tableResult
      (checkFrom r (s.mem.readList (j.base + j.position) (j.length - j.position)))).advanceDeny.driveNote := by
  have hjob' : s.check.choose.tableJob = some j := by rw [CheckUnit.choose_tableJob, hjob]
  have hdue : s.check.choose.jobEndDue = true := by
    simp only [CheckUnit.jobEndDue, hserving, hjob', TableJob.lastPiece, Config.pieceSize, hlast, decide_true]
  have hlength : j.pieceLength = j.length - j.position := Nat.min_eq_right hlast
  have hend : s.chooseCheck.endJob = (s.checkFreed s.check.engineJob none).tableResult
      (checkFrom r (s.mem.readList (j.base + j.position) (j.length - j.position))) := by
    unfold State.endJob
    rw [State.chooseCheck_check, hserving, hjob']
    simp only [CheckUnit.choose_engineJob, State.checkFreed, State.pieceRemainder, hlength]
    rfl
  show execCheckJobEnd s = _
  rw [execCheckJobEnd, if_pos hdue, hend]
  rfl

theorem State.checkFreed_eq_of_table (s : State) : s.checkFreed s.check.engineJob none = { s with check := { s.check with
    serving := if s.check.engineJob.isSome then some { owner := .verdictEngine, remainder := 0xFFFF#16 } else none
    tableJob := none } } := by
  rw [State.checkFreed, State.chooseCheck, CheckUnit.choose_spec]
  rfl

/-- Where the residue of a table leads: the table unit and its next job, with the answer of an open that has failed. -/
theorem State.openResidue_eq {s : State} (hs : s.memoryCanonical) {n : Fin 32} (hk : s.kindOf n = some .serviceOpen)
    (hjob : s.check.tableJob = none) (table : Nat) (residue : Word) : ∃ m u j N,
    s.openResidue n table residue = { s with
      mem := m, table := u, check := { s.check with tableJob := j }, notice := s.notice.withCounts N } ∧
    s.sameBytesBut (s.openResidue n table residue) (fun a => a = cellBase n ∨ inAnswer n a ∨ inMirror a) ∧
    (residue ≠ 0#16 → u = { service := .noService, held := none } ∧ j = none ∧
      (s.openResidue n table residue).answers n [0x46#8, 0x01#8, byteOf table, 0xFF#8]) ∧
    (residue = 0#16 → table < 5 → u = { s.table with held := some (n, .serviceOpen (table + 1) 0xFF false) } ∧
      j = some { base := (Config.tableExtent (table + 1)).1, length := (Config.tableExtent (table + 1)).2
                 position := 0, remainder := 0xFFFF#16 }) ∧
    (∀ row, residue = 0#16 → 5 ≤ table → s.mem.fieldFault = some row →
      u = { service := .noService, held := none } ∧ j = none ∧
      (s.openResidue n table residue).answers n [0x46#8, row.detail, byteOf row.table, byteOf row.entry]) ∧
    (residue = 0#16 → 5 ≤ table → s.mem.fieldFault = none →
      u = { s.table with held := some (n, .serviceOpen 1 2 true) } ∧ j = none) := by
  have failed (detail : Byte) (row entry : Nat) : ∃ m N, s.failOpen n row detail entry = { s with
        mem := m, table := { service := .noService, held := none }, check := { s.check with tableJob := none }
        notice := s.notice.withCounts N } ∧
      s.sameBytesBut (s.failOpen n row detail entry) (fun a => a = cellBase n ∨ inAnswer n a ∨ inMirror a) ∧
      (s.failOpen n row detail entry).answers n [0x46#8, detail, byteOf row, byteOf entry] := by
    obtain ⟨m, N, h⟩ := s.entered_frame .noService (n := n) (by rw [hk]; decide)
      (openAnswer Outcome.tableInvalid detail row entry 0 0 0)
    refine ⟨m, N, ?_, s.entered_sameBytes .noService n _,
      State.answers.of_append_zeros (k := 6) (State.entered_answers hs .noService n _)⟩
    rw [State.failOpen, h, ← hjob]
  unfold State.openResidue
  by_cases hresidue : residue = 0#16
  case neg =>
    rw [if_pos hresidue]
    obtain ⟨m, N, h, hbytes, hanswer⟩ := failed detailCheck table Config.absent
    exact ⟨m, _, _, N, h, hbytes, fun _ => ⟨rfl, rfl, hanswer⟩, fun h => absurd h hresidue,
      fun _ h => absurd h hresidue, fun h => absurd h hresidue⟩
  rw [if_neg (not_not.mpr hresidue)]
  by_cases htable : table < 5
  · rw [if_pos htable]
    exact ⟨s.mem, _, _, s.notice, rfl, .of_mem rfl, fun h => absurd hresidue h, fun _ _ => ⟨rfl, rfl⟩,
      fun _ _ h => absurd htable (Nat.not_lt.mpr h), fun _ h => absurd htable (Nat.not_lt.mpr h)⟩
  rw [if_neg htable]
  cases hfault : s.mem.fieldFault with
  | some row =>
    obtain ⟨m, N, h, hbytes, hanswer⟩ := failed row.detail row.table row.entry
    refine ⟨m, _, _, N, h, hbytes, fun h => absurd hresidue h, fun _ h => absurd h htable, ?_, nofun⟩
    rintro _ - - ⟨⟩
    exact ⟨rfl, rfl, hanswer⟩
  | none =>
    exact ⟨s.mem, _, _, s.notice, by rw [← hjob]; rfl, .of_mem rfl, fun h => absurd hresidue h,
      fun _ h => absurd h htable, nofun, fun _ _ _ => ⟨rfl, rfl⟩⟩

/-! ### The end of a batch check (R109) -/

/-- A batch that is answered. -/
theorem State.finishBatch_spec {s : State} (hs : s.memoryCanonical) {n : Fin 32} (hk : s.kindOf n = some .denyBatch)
    (r : Byte × Byte) (applied stopping : Nat) : ∃ m N, s.finishBatch n r applied stopping = { s with
      mem := m, table := { s.table with held := none }, notice := s.notice.withCounts N } ∧
    s.sameBytesBut (s.finishBatch n r applied stopping) (fun a => a = cellBase n ∨ inAnswer n a) ∧
    (s.finishBatch n r applied stopping).answers n
      ([r.1, r.2] ++ le16 applied ++ le16 stopping ++ le16 s.deny.list.length) := by
  obtain ⟨m, N, h⟩ := s.finishTable_frame_of_ne (n := n) (by rw [hk]; decide) (s.batchAnswer r applied stopping)
  exact ⟨m, N, h, s.finishTable_sameBytes n _, State.finishTable_answers hs n _⟩

/-- Where a batch goes with a number of records applied: DONE, the next edit, or the record that stops it. -/
theorem State.continueBatch_eq {s : State} (hs : s.memoryCanonical) {n : Fin 32} (hk : s.kindOf n = some .denyBatch)
    (offset count applied : Nat) : ∃ m h e N,
    s.continueBatch n offset count applied = { s with
      mem := m, table := { s.table with held := h }, deny := { s.deny with edit := e }
      notice := s.notice.withCounts N } ∧
    s.sameBytesBut (s.continueBatch n offset count applied) (fun a => a = cellBase n ∨ inAnswer n a) ∧
    (count ≤ applied → h = none ∧ e = s.deny.edit ∧ (s.continueBatch n offset count applied).answers n
      ([0x01#8, 0#8] ++ le16 applied ++ [0xFF#8, 0xFF#8] ++ le16 s.deny.list.length)) ∧
    (∀ edit, applied < count → (s.mem.batchRecord offset applied).judge = .ok edit →
      h = some (n, .denyBatch offset count applied true) ∧ e = some edit ∧ m = s.mem) ∧
    (∀ d, applied < count → (s.mem.batchRecord offset applied).judge = .error d →
      h = none ∧ e = s.deny.edit ∧ (s.continueBatch n offset count applied).answers n
        ([0x41#8, d] ++ le16 applied ++ le16 applied ++ le16 s.deny.list.length)) := by
  unfold State.continueBatch
  by_cases hcount : count ≤ applied
  · rw [if_pos hcount]
    obtain ⟨m, N, h, hbytes, hanswer⟩ := State.finishBatch_spec hs hk (Outcome.done, 0#8) applied Config.noneWord
    exact ⟨m, _, _, N, h, hbytes, fun _ => ⟨rfl, rfl, hanswer⟩,
      fun _ h => absurd hcount (Nat.not_le.mpr h), fun _ h => absurd hcount (Nat.not_le.mpr h)⟩
  rw [if_neg hcount]
  cases hjudge : (s.mem.batchRecord offset applied).judge with
  | error d =>
    obtain ⟨m, N, h, hbytes, hanswer⟩ := State.finishBatch_spec hs hk (Outcome.badRequest, d) applied applied
    refine ⟨m, _, _, N, h, hbytes, fun h => absurd h hcount, nofun, ?_⟩
    rintro _ - ⟨⟩
    exact ⟨rfl, rfl, hanswer⟩
  | ok edit =>
    refine ⟨s.mem, _, _, s.notice, rfl, .of_mem rfl, fun h => absurd h hcount, ?_, nofun⟩
    rintro _ - ⟨⟩
    exact ⟨rfl, rfl, rfl⟩

/-- Where the residue of a batch leads. -/
theorem State.batchResidue_of_ne (s : State) (n : Fin 32) (offset count : Nat) {residue : Word} (h : residue ≠ 0#16) :
    s.batchResidue n offset count residue = s.finishBatch n (Outcome.checkFailed, 0#8) 0 Config.noneWord :=
  if_pos h

theorem State.batchResidue_zero (s : State) (n : Fin 32) (offset count : Nat) :
    s.batchResidue n offset count 0#16 = s.continueBatch n offset count 0 :=
  if_neg (not_not.mpr rfl)

/-- The state after the last piece of a table-unit job: what the table unit makes of the residue, the unit serving what
waits. -/
theorem tableJobEnd_eq {s v t : State} {m : Memory} {u : TableUnit} {j : Option TableJob} {e : Option Edit}
    {N : NoticeUnit} (hv : v = { s.checkFreed s.check.engineJob none with
      mem := m, table := u, check := { (s.checkFreed s.check.engineJob none).check with tableJob := j }
      deny := { s.deny with edit := e }, notice := s.notice.withCounts N })
    (h : t = v.advanceDeny.driveNote) :
    t = { s.settled with
      mem := m, table := u
      check := { s.check with
        serving := if s.check.engineJob.isSome then some { owner := .verdictEngine, remainder := 0xFFFF#16 } else none
        tableJob := j }
      deny := DenyUnit.advance { s.deny with edit := e }
      notice := s.notice.withCounts t.notice } := by
  rw [h, hv, State.checkFreed_eq_of_table]
  rfl

theorem tableCheckEnd_open {s : State} {n : Fin 32} {table entry : Nat} {j : TableJob} {r : Word}
    (hs : s.memoryCanonical) (hserving : s.check.choose.serving = some { owner := .tableUnit, remainder := r })
    (hjob : s.check.tableJob = some j) (hlast : j.length - j.position ≤ 64)
    (hheld : s.table.held = some (n, .serviceOpen table entry false)) (hk : s.kindOf n = some .serviceOpen) :
    ∃ t residue, exec .checkJobEnd s = .next t ∧
      residue = checkFrom r (s.mem.readList (j.base + j.position) (j.length - j.position)) ∧
      t = { s.settled with
        mem := t.mem, table := t.table
        check := { s.check with
          serving := if s.check.engineJob.isSome then some { owner := .verdictEngine, remainder := 0xFFFF#16 } else none
          tableJob := t.check.tableJob }
        notice := s.notice.withCounts t.notice } ∧
      s.sameBytesBut t (fun a => a = cellBase n ∨ inAnswer n a ∨ inMirror a) ∧
      (residue ≠ 0#16 → t.table = { service := .noService, held := none } ∧ t.check.tableJob = none ∧
        t.answers n [0x46#8, 0x01#8, byteOf table, 0xFF#8]) ∧
      (residue = 0#16 → table < 5 → t.table = { s.table with held := some (n, .serviceOpen (table + 1) 0xFF false) } ∧
        t.check.tableJob = some { base := (Config.tableExtent (table + 1)).1
                                  length := (Config.tableExtent (table + 1)).2, position := 0
                                  remainder := 0xFFFF#16 }) ∧
      (∀ row, residue = 0#16 → 5 ≤ table → s.mem.fieldFault = some row →
        t.table = { service := .noService, held := none } ∧ t.check.tableJob = none ∧
        t.answers n [0x46#8, row.detail, byteOf row.table, byteOf row.entry]) ∧
      (residue = 0#16 → 5 ≤ table → s.mem.fieldFault = none →
        t.table = { s.table with held := some (n, .serviceOpen 1 2 true) } ∧ t.check.tableJob = none) := by
  have hexec := State.endJob_of_table hserving hjob hlast
  generalize checkFrom r (s.mem.readList (j.base + j.position) (j.length - j.position)) = residue at hexec
  have hresult : (s.checkFreed s.check.engineJob none).tableResult residue =
      (s.checkFreed s.check.engineJob none).openResidue n table residue := by
    rw [State.tableResult, show (s.checkFreed s.check.engineJob none).table.held = _ from hheld]
  have hfree : (s.checkFreed s.check.engineJob none).check.tableJob = none := by
    rw [State.checkFreed_eq_of_table]
  obtain ⟨m, u, i, N, hv, hbytes, hne, hnext, hfault, hpass⟩ :=
    State.openResidue_eq (s := s.checkFreed s.check.engineJob none) hs hk hfree table residue
  rw [hresult] at hexec
  generalize (s.checkFreed s.check.engineJob none).openResidue n table residue = v at hexec hv hbytes hne hfault
  have heq := tableJobEnd_eq (s := s) (e := s.deny.edit) hv rfl
  have htable : v.advanceDeny.driveNote.table = u := by rw [heq]
  have hnextJob : v.advanceDeny.driveNote.check.tableJob = i := by rw [heq]
  refine ⟨_, residue, hexec, rfl, ?_, hbytes, ?_⟩
  · rw [htable, hnextJob]
    exact heq.trans (by rw [heq]; rfl)
  · rw [htable, hnextJob]
    exact ⟨hne, hnext, hfault, hpass⟩

theorem tableCheckEnd_batch {s : State} {n : Fin 32} {offset count applied : Nat} {j : TableJob} {r : Word}
    (hs : s.memoryCanonical) (hserving : s.check.choose.serving = some { owner := .tableUnit, remainder := r })
    (hjob : s.check.tableJob = some j) (hlast : j.length - j.position ≤ 64)
    (hheld : s.table.held = some (n, .denyBatch offset count applied false)) (hk : s.kindOf n = some .denyBatch)
    (hcount : 0 < count) :
    ∃ t residue, exec .checkJobEnd s = .next t ∧
      residue = checkFrom r (s.mem.readList (j.base + j.position) (j.length - j.position)) ∧
      t = { s.settled with
        mem := t.mem
        table := { s.table with held := t.table.held }
        check := { s.check with
          serving := if s.check.engineJob.isSome then some { owner := .verdictEngine, remainder := 0xFFFF#16 } else none
          tableJob := none }
        deny := DenyUnit.advance { s.deny with edit := t.deny.edit }
        notice := s.notice.withCounts t.notice } ∧
      s.sameBytesBut t (fun a => a = cellBase n ∨ inAnswer n a) ∧
      (residue ≠ 0#16 → t.table.held = none ∧ t.deny = s.deny.advance ∧
        t.answers n ([0x44#8, 0#8, 0#8, 0#8, 0xFF#8, 0xFF#8] ++ le16 s.deny.list.length)) ∧
      (∀ e, residue = 0#16 → (s.mem.batchRecord offset 0).judge = .ok e →
        t.table.held = some (n, .denyBatch offset count 0 true) ∧ t.deny.edit = some e ∧ t.mem = s.mem) ∧
      (∀ d, residue = 0#16 → (s.mem.batchRecord offset 0).judge = .error d →
        t.table.held = none ∧ t.deny = s.deny.advance ∧
        t.answers n ([0x41#8, d, 0#8, 0#8, 0#8, 0#8] ++ le16 s.deny.list.length)) := by
  have hexec := State.endJob_of_table hserving hjob hlast
  generalize checkFrom r (s.mem.readList (j.base + j.position) (j.length - j.position)) = residue at hexec
  have hresult : (s.checkFreed s.check.engineJob none).tableResult residue =
      (s.checkFreed s.check.engineJob none).batchResidue n offset count residue := by
    rw [State.tableResult, show (s.checkFreed s.check.engineJob none).table.held = _ from hheld]
  have hfree : (s.checkFreed s.check.engineJob none).check.tableJob = none := by
    rw [State.checkFreed_eq_of_table]
  rw [hresult] at hexec
  -- what the batch makes of the residue, as the table unit's and the deny list unit's state
  have hbatch : ∃ m h e N, (s.checkFreed s.check.engineJob none).batchResidue n offset count residue =
        { s.checkFreed s.check.engineJob none with
          mem := m, table := { s.table with held := h }, deny := { s.deny with edit := e }
          notice := s.notice.withCounts N } ∧
      s.sameBytesBut ((s.checkFreed s.check.engineJob none).batchResidue n offset count residue)
        (fun a => a = cellBase n ∨ inAnswer n a) ∧
      (residue ≠ 0#16 → h = none ∧ e = s.deny.edit ∧
        ((s.checkFreed s.check.engineJob none).batchResidue n offset count residue).answers n
          ([0x44#8, 0#8, 0#8, 0#8, 0xFF#8, 0xFF#8] ++ le16 s.deny.list.length)) ∧
      (∀ edit, residue = 0#16 → (s.mem.batchRecord offset 0).judge = .ok edit →
        h = some (n, .denyBatch offset count 0 true) ∧ e = some edit ∧ m = s.mem) ∧
      (∀ d, residue = 0#16 → (s.mem.batchRecord offset 0).judge = .error d → h = none ∧ e = s.deny.edit ∧
        ((s.checkFreed s.check.engineJob none).batchResidue n offset count residue).answers n
          ([0x41#8, d, 0#8, 0#8, 0#8, 0#8] ++ le16 s.deny.list.length)) := by
    by_cases hresidue : residue = 0#16
    · subst hresidue
      obtain ⟨m, h, e, N, hv, hbytes, -, hok, herror⟩ :=
        State.continueBatch_eq (s := s.checkFreed s.check.engineJob none) hs hk offset count 0
      rw [State.batchResidue_zero]
      exact ⟨m, h, e, N, hv, hbytes, fun h => absurd rfl h, fun edit _ => hok edit hcount,
        fun d _ => herror d hcount⟩
    · obtain ⟨m, N, hv, hbytes, hanswer⟩ := State.finishBatch_spec (s := s.checkFreed s.check.engineJob none) hs hk
        (Outcome.checkFailed, 0#8) 0 Config.noneWord
      rw [State.batchResidue_of_ne _ n offset count hresidue]
      exact ⟨m, none, s.deny.edit, N, hv, hbytes, fun _ => ⟨rfl, rfl, hanswer⟩, fun _ h => absurd h hresidue,
        fun _ h => absurd h hresidue⟩
  obtain ⟨m, h, e, N, hv, hbytes, hne, hok, herror⟩ := hbatch
  generalize (s.checkFreed s.check.engineJob none).batchResidue n offset count residue = v at hexec hv hbytes hne herror
  have heq := tableJobEnd_eq (s := s) (j := (s.checkFreed s.check.engineJob none).check.tableJob) hv rfl
  rw [hfree] at heq
  have hholds : v.advanceDeny.driveNote.table.held = h := by rw [heq]
  have hdeny : v.advanceDeny.driveNote.deny = DenyUnit.advance { s.deny with edit := e } := by rw [heq]
  have hedit : v.advanceDeny.driveNote.deny.edit = e := by
    rw [hdeny]
    exact DenyUnit.advance_edit _
  have hmem : v.advanceDeny.driveNote.mem = m := by rw [heq]
  have kept (h : e = s.deny.edit) : v.advanceDeny.driveNote.deny = s.deny.advance := by rw [hdeny, h]
  refine ⟨_, residue, hexec, rfl, ?_, hbytes, fun h₁ => ?_, fun edit h₁ h₂ => ?_, fun d h₁ h₂ => ?_⟩
  · rw [hholds, hedit, hmem]
    exact heq
  · obtain ⟨hh, he, hanswer⟩ := hne h₁
    exact ⟨hholds.trans hh, kept he, hanswer⟩
  · obtain ⟨hh, he, hm⟩ := hok edit h₁ h₂
    exact ⟨hholds.trans hh, hedit.trans he, hmem.trans hm⟩
  · obtain ⟨hh, he, hanswer⟩ := herror d h₁ h₂
    exact ⟨hholds.trans hh, kept he, hanswer⟩

/-- Settles O26: the residue of a table, the residue of a batch, and the extents of the tables. -/
theorem tableCheckEndGoesOn : Obligations.TableCheckEndGoesOn := by
  unfold Obligations.TableCheckEndGoesOn
  exact ⟨fun s n table entry j r hs hserving hjob hlast hheld hk =>
      tableCheckEnd_open hs hserving hjob hlast hheld hk,
    fun s n offset count applied j r hs hserving hjob hlast hheld hk hcount =>
      tableCheckEnd_batch hs hserving hjob hlast hheld hk hcount, rfl⟩

end Sys2Proof.Machine
end

section
/-!
The requests of the table unit from their take on: an open and its completion (R149, R153), a close (R156, R157), a
batch's range check (R107) and a probe (R116, R117).
-/

namespace Sys2Proof.Machine

/-! ### SERVICE-OPEN (R149, R153) -/

theorem exec_serviceOpen {s : State} {n : Fin 32} (h : s.tableHead .serviceOpen = some n) :
    exec .serviceOpen s = .next (s.chooseCheck.takeOpen n).advanceDeny.driveNote := by
  show execServiceOpen s = _
  rw [execServiceOpen, h]
  rfl

theorem State.takeOpen_of_open {s : State} (h : s.table.service.isOpen = true) (n : Fin 32) :
    s.takeOpen n = s.refuseOpen n 0x01#8 :=
  if_pos h

theorem State.takeOpen_of_no_clock {s : State} (h : s.table.service.isOpen = false) (hclock : s.clock.valid = false)
    (n : Fin 32) : s.takeOpen n = s.refuseOpen n 0x02#8 := by
  rw [State.takeOpen, if_neg (by simp [h]), if_pos (by simp [hclock])]

theorem State.takeOpen_of_clock {s : State} (h : s.table.service.isOpen = false) (hclock : s.clock.valid = true)
    (n : Fin 32) : s.takeOpen n = ((s.take .table n).enterService .checking).checkTable n 1 := by
  rw [State.takeOpen, if_neg (by simp [h]), if_neg (by simp [hclock])]

/-- The outcomes of the take: a refusal that changes the cell, or the first check asked for. -/
theorem State.refuseOpen_spec {s : State} (hs : s.memoryCanonical) (hfree : s.table.held = none) {n : Fin 32}
    (hk : s.kindOf n = some .serviceOpen) (detail : Byte) : ∃ m N, s.refuseOpen n detail = { s with
      mem := m, intake := { s.intake with table := s.intake.table.tail }, notice := s.notice.withCounts N } ∧
    (s.refuseOpen n detail).answers n [0x43#8, detail, 0#8, 0xFF#8] ∧
    s.sameBytesBut (s.refuseOpen n detail) (fun a => a = cellBase n ∨ inAnswer n a) := by
  obtain ⟨m, N, h⟩ := State.refused_frame hfree (n := n) (by rw [hk]; decide)
    (openAnswer Outcome.refusedState detail 0 Config.absent 0 0 0)
  exact ⟨m, N, h, State.answers.of_append_zeros (k := 6) (State.refused_answers hs n _), s.refused_sameBytes n _⟩

theorem State.askFirstCheck_spec {s : State} (hs : s.memoryCanonical) (n : Fin 32) : ∃ m N,
    ((s.take .table n).enterService .checking).checkTable n 1 = { s with
      mem := m, intake := { s.intake with table := s.intake.table.tail }
      table := { service := .checking, held := some (n, .serviceOpen 1 0xFF false) }
      check := { s.check with tableJob := some { base := 0x1000, length := 16, position := 0, remainder := 0xFFFF#16 } }
      notice := s.notice.withCounts N } ∧
    (((s.take .table n).enterService .checking).checkTable n 1).cellState n = .taken ∧
    s.sameBytesBut (((s.take .table n).enterService .checking).checkTable n 1)
      (fun a => a = cellBase n ∨ inMirror a) := by
  obtain ⟨-, htaken, -⟩ := State.take_spec hs .table n
  obtain ⟨m, N, htake⟩ := s.take_frame .table n
  obtain ⟨m', henter⟩ := (s.take .table n).enterService_frame .checking
  have hbytes := (s.take .table n).enterService_sameBytes .checking
  have hcell : ((s.take .table n).enterService .checking).cellState n = .taken := by
    rw [State.cellState, hbytes _ (not_inMirror_of_inCell ⟨le_rfl, by simp [Config.cellSize]⟩)]
    exact htaken
  have hall := ((s.take_sameBytes .table n).mono fun _ => .inl).trans
    (hbytes.mono (q := fun a => a = cellBase n ∨ inMirror a) fun _ => .inr)
  generalize (s.take .table n).enterService .checking = u at henter hcell hall ⊢
  rw [htake] at henter
  refine ⟨m', N, ?_, hcell, hall⟩
  rw [State.checkTable, henter]
  rfl

/-- Settles O44: the service state and the clock decide between two refusals and the first check. -/
theorem serviceOpenTakesCell : Obligations.ServiceOpenTakesCell := by
  unfold Obligations.ServiceOpenTakesCell
  intro s n hs hhead hchecking
  obtain ⟨hfree, -, hk⟩ := State.head_of_tableHead hhead
  rw [exec_serviceOpen hhead]
  by_cases hopen : s.table.service.isOpen = true
  · have hservice : s.table.service = .inService ∨ s.table.service = .terminated := by
      cases h : s.table.service <;> simp_all [ServiceState.isOpen]
    rw [State.takeOpen_of_open (s := s.chooseCheck) hopen]
    obtain ⟨m, N, h, hanswer, hbytes⟩ := State.refuseOpen_spec (s := s.chooseCheck) hs hfree hk 0x01#8
    generalize s.chooseCheck.refuseOpen n 0x01#8 = v at h hanswer hbytes ⊢
    refine ⟨_, rfl, ?_, fun _ => ⟨?_, ?_, hanswer, hbytes⟩, fun h => ?_, fun h => ?_⟩
    · rw [h]; rfl
    · rw [h]; rfl
    · rw [h]; rfl
    · exact absurd h (by rcases hservice with h | h <;> rw [h] <;> decide)
    · exact absurd h (by rcases hservice with h | h <;> rw [h] <;> decide)
  have hclosed : s.table.service.isOpen = false := Bool.not_eq_true _ ▸ hopen
  have hnot : ¬ (s.table.service = .inService ∨ s.table.service = .terminated) := by
    rintro (h | h) <;> rw [h] at hclosed <;> cases hclosed
  cases hclock : s.clock.valid with
  | false =>
    rw [State.takeOpen_of_no_clock (s := s.chooseCheck) hclosed hclock]
    obtain ⟨m, N, h, hanswer, hbytes⟩ := State.refuseOpen_spec (s := s.chooseCheck) hs hfree hk 0x02#8
    generalize s.chooseCheck.refuseOpen n 0x02#8 = v at h hanswer hbytes ⊢
    refine ⟨_, rfl, ?_, fun h => absurd h hnot, fun _ _ => ⟨?_, ?_, hanswer, hbytes⟩, nofun⟩
    · rw [h]; rfl
    · rw [h]; rfl
    · rw [h]; rfl
  | true =>
    rw [State.takeOpen_of_clock (s := s.chooseCheck) hclosed hclock]
    obtain ⟨m, N, h, htaken, hbytes⟩ := State.askFirstCheck_spec (s := s.chooseCheck) hs n
    generalize ((s.chooseCheck.take .table n).enterService .checking).checkTable n 1 = v at h htaken hbytes ⊢
    refine ⟨_, rfl, ?_, fun h => absurd h hnot, nofun, fun _ _ => ⟨?_, ?_, htaken, hbytes⟩⟩
    · rw [h]; rfl
    · rw [h]; rfl
    · rw [h]; rfl

/-- The journey as an open's completion sets it, the service state apart (R132, R153). -/
def State.opened (s : State) : State :=
  ({ s with engine := { s.engine with counter := 0 } } : State).placeAtOrigin s.mem.header.origin
    (serviceDayOf s.clock.day s.clock.minute s.mem.header.dayChange)

theorem State.completeOpen_eq (s : State) (n : Fin 32) : s.completeOpen n =
    (s.opened.enterService .inService).finishTable n (openAnswer Outcome.done 0#8 0 Config.absent
      (serviceDayOf s.clock.day s.clock.minute s.mem.header.dayChange) s.clock.day s.clock.minute) := by
  simp only [State.completeOpen, State.opened, State.enterService_clock, State.placeAtOrigin_clock]

theorem exec_serviceOpenCompletion {s : State} {n : Fin 32} {table entry : Nat}
    (h : s.table.held = some (n, .serviceOpen table entry true)) :
    exec .serviceOpenCompletion s = (s.completeOpen n).event := by
  show execServiceOpenCompletion s = _
  rw [execServiceOpenCompletion, h]

/-- Settles O45: the completion is the journey placed at its origin, with the service entered and the cell answered. -/
theorem serviceOpenCompletes : Obligations.ServiceOpenCompletes := by
  unfold Obligations.ServiceOpenCompletes
  intro s n table entry hs hheld hk
  have hanswer := State.entered_answers (s := s.opened) hs .inService n (openAnswer Outcome.done 0#8 0 Config.absent
    (serviceDayOf s.clock.day s.clock.minute s.mem.header.dayChange) s.clock.day s.clock.minute)
  have hbytes := s.opened.entered_sameBytes .inService n (openAnswer Outcome.done 0#8 0 Config.absent
    (serviceDayOf s.clock.day s.clock.minute s.mem.header.dayChange) s.clock.day s.clock.minute)
  obtain ⟨m, N, h⟩ := s.opened.entered_frame .inService (n := n) (by rw [show s.opened.kindOf n = _ from hk]; decide)
    (openAnswer Outcome.done 0#8 0 Config.absent
      (serviceDayOf s.clock.day s.clock.minute s.mem.header.dayChange) s.clock.day s.clock.minute)
  obtain ⟨hother, hcleared⟩ := State.flag_of_cleared (s.completeOpen_flags n)
  rw [← State.completeOpen_eq] at hanswer hbytes h
  rw [exec_serviceOpenCompletion hheld]
  have hday : (s.completeOpen n).driveNote.settled.journey.serviceDay =
      serviceDayOf s.clock.day s.clock.minute s.mem.header.dayChange := by rw [h]; rfl
  refine ⟨_, rfl, ?_, (State.flag_event _ _).trans hcleared, hother.event, ?_, State.sameBytesBut.event hbytes⟩
  · rw [← serviceDayOf_eq, h]
    rfl
  · rw [hday]
    exact hanswer.event

/-! ### SERVICE-CLOSE (R156, R157) -/

theorem exec_serviceClose {s : State} {n : Fin 32} (h : s.tableHead .serviceClose = some n) :
    exec .serviceClose s = (s.takeClose n).event := by
  show execServiceClose s = _
  rw [execServiceClose, h]

theorem State.takeClose_of_idle {s : State} (h : s.table.service.isOpen = true) (hidle : s.engine.flight = none)
    (n : Fin 32) : s.takeClose n = (s.take .table n).completeClose n := by
  unfold State.takeClose
  cases hservice : s.table.service with
  | noService | checking =>
    rw [hservice] at h
    cases h
  | inService | terminated => exact if_pos (by rw [hidle]; rfl)

theorem State.takeClose_of_flight {s : State} (h : s.table.service.isOpen = true) (hflight : s.engine.flight.isSome)
    (n : Fin 32) : s.takeClose n = (s.take .table n).hold n .serviceClose := by
  have hbusy : ¬ s.engine.flight.isNone = true := by
    rw [← Option.not_isSome, hflight]
    decide
  unfold State.takeClose
  cases hservice : s.table.service with
  | noService | checking =>
    rw [hservice] at h
    cases h
  | inService | terminated => exact if_neg hbusy

/-- The answer of a close's completion (R158, Table 12-7). -/
abbrev State.closeReport (s : State) : List Byte :=
  [0x01#8, 0#8, byteOf s.table.service.code] ++ le16 s.journey.round ++
    [byteOf (if s.journey.kind = .nowhere then 0xFF else s.journey.stop), byteOf s.journey.kind.code]

/-- A close's completion: no journey, no service, FIRST_FAULT clear, and the cell answered. -/
theorem State.completeClose_spec {s : State} (hs : s.memoryCanonical) {n : Fin 32} (hk : s.kindOf n = some .serviceClose) :
    (∃ m F N, s.completeClose n = { s with
      mem := m
      journey := { s.journey with kind := .nowhere, stop := 0, round := 0, serviceDay := 0, capture := none }
      table := { service := .noService, held := none }
      rounds := []
      notice := { s.notice with flags := F }.withCounts N }) ∧
    (s.completeClose n).flag .firstFault = false ∧ s.sameFlagsBut (s.completeClose n) [.firstFault] ∧
    (s.completeClose n).answers n s.closeReport ∧
    s.sameBytesBut (s.completeClose n) (fun a => a = cellBase n ∨ inAnswer n a ∨ inMirror a) := by
  obtain ⟨hother, hcleared⟩ := State.flag_of_cleared (s.completeClose_flags n)
  obtain ⟨m, N, h⟩ := s.endJourney.entered_frame .noService (n := n)
    (by rw [show s.endJourney.kindOf n = _ from hk]; decide) s.closingAnswer
  refine ⟨⟨m, s.endJourney.notice.flags, N, ?_⟩, hcleared, hother,
    State.entered_answers (s := s.endJourney) hs .noService n s.closingAnswer,
    s.endJourney.entered_sameBytes .noService n s.closingAnswer⟩
  rw [State.completeClose, h]
  rfl

/-- A close answered at its take changes its cell alone (Table 8-5). -/
theorem State.takeClose_refused {s : State} (h : s.table.service = .noService ∨ s.table.service = .checking)
    (n : Fin 32) : s.takeClose n = (s.take .table n).finishTable n
      (if s.table.service = .noService then [0x01#8, 0x01#8, 0#8, 0#8, 0#8, 0xFF#8, 0#8] else [0x43#8]) := by
  unfold State.takeClose
  rcases h with h | h <;> rw [h] <;> rfl

theorem exec_serviceCloseCompletion {s : State} {n : Fin 32} (h : s.table.held = some (n, .serviceClose)) :
    exec .serviceCloseCompletion s = if s.engine.flight.isNone then (s.completeClose n).event else .next s := by
  show execServiceCloseCompletion s = _
  rw [execServiceCloseCompletion, h]
  rfl

theorem serviceClose_take {s : State} {n : Fin 32} (hs : s.memoryCanonical)
    (hhead : s.tableHead .serviceClose = some n) : ∃ t, exec .serviceClose s = .next t ∧
      (s.table.service = .noService ∨ s.table.service = .checking →
        t = { s.settled with
          mem := t.mem
          intake := { s.intake with table := s.intake.table.tail }
          notice := s.notice.withCounts t.notice } ∧
        t.answers n (if s.table.service = .noService then [0x01#8, 0x01#8, 0#8, 0#8, 0#8, 0xFF#8, 0#8]
          else [0x43#8]) ∧
        s.sameBytesBut t (fun a => a = cellBase n ∨ inAnswer n a)) ∧
      (s.table.service.isOpen = true → s.engine.flight.isSome →
        t = { s.settled with
          mem := t.mem
          intake := { s.intake with table := s.intake.table.tail }
          table := { s.table with held := some (n, .serviceClose) }
          notice := s.notice.withCounts t.notice } ∧
        t.cellState n = .taken ∧ s.sameBytesBut t (fun a => a = cellBase n)) ∧
      (s.table.service.isOpen = true → s.engine.flight = none →
        t = { s.settled with
          mem := t.mem
          intake := { s.intake with table := s.intake.table.tail }
          journey := { s.journey with kind := .nowhere, stop := 0, round := 0, serviceDay := 0, capture := none }
          table := { service := .noService, held := none }
          rounds := []
          notice := { s.notice with flags := t.notice.flags }.withCounts t.notice } ∧
        t.flag .firstFault = false ∧ s.sameFlagsBut t [.firstFault] ∧ t.answers n s.closeReport ∧
        s.sameBytesBut t (fun a => a = cellBase n ∨ inAnswer n a ∨ inMirror a)) := by
  obtain ⟨hfree, -, hk⟩ := State.head_of_tableHead hhead
  rw [exec_serviceClose hhead]
  obtain ⟨m, N, htake⟩ := s.take_frame .table n
  refine ⟨_, rfl, fun hservice => ?_, fun hopen hflight => ?_, fun hopen hidle => ?_⟩
  · rw [State.takeClose_refused hservice]
    obtain ⟨m, N, h⟩ := State.refused_frame hfree (n := n) (by rw [hk]; decide)
      (if s.table.service = .noService then [0x01#8, 0x01#8, 0#8, 0#8, 0#8, 0xFF#8, 0#8] else [0x43#8])
    refine ⟨?_, (State.refused_answers hs n _).event, (s.refused_sameBytes n _).event⟩
    rw [h]
    rfl
  · rw [State.takeClose_of_flight hopen hflight]
    obtain ⟨-, htaken, hbytes⟩ := State.take_spec hs .table n
    refine ⟨?_, htaken, hbytes⟩
    rw [htake]
    rfl
  · rw [State.takeClose_of_idle hopen hidle]
    obtain ⟨⟨m', F, N', h⟩, hcleared, hother, hanswer, hbytes⟩ := State.completeClose_spec
      (State.take_memoryCanonical hs .table n) (n := n) (by rw [State.kindOf_take, hk])
    have hflags : s.sameFlagsBut (s.take .table n) [] := fun f _ => by rw [State.flag, State.take_flags]; rfl
    refine ⟨?_, (State.flag_event _ _).trans hcleared,
      ((hflags.mono (by simp)).trans hother).event, ?_,
      (((s.take_sameBytes .table n).mono fun _ => .inl).trans hbytes).event⟩
    · rw [h, htake]
      rfl
    · refine State.answers.event ?_
      rwa [State.closeReport, State.take_table_eq] at hanswer

/-- Settles O46: the service state and the engine decide the take, the engine alone the completion. -/
theorem serviceCloseTakesOrCompletes : Obligations.ServiceCloseTakesOrCompletes := by
  unfold Obligations.ServiceCloseTakesOrCompletes
  refine ⟨fun s n hs hhead => serviceClose_take hs hhead, fun s n hs hheld hk => ⟨fun hflight => ?_, fun hidle => ?_⟩⟩
  · rw [exec_serviceCloseCompletion hheld, if_neg]
    rw [← Option.not_isSome, hflight]
    decide
  · rw [exec_serviceCloseCompletion hheld, if_pos (by rw [hidle]; rfl)]
    obtain ⟨⟨m, F, N, h⟩, hcleared, hother, hanswer, hbytes⟩ := State.completeClose_spec hs hk
    refine ⟨_, rfl, ?_, (State.flag_event _ _).trans hcleared, hother.event, hanswer.event, hbytes.event⟩
    rw [h]
    rfl

end Sys2Proof.Machine
end

section
/-!
The batch's range check (R107) and the probe (R116, R117), and with them what the completion of a lookup leaves of the
deny list unit (R105, R106).
-/

namespace Sys2Proof.Machine

/-! ### DENY-BATCH (R107) -/

theorem exec_denyBatch {s : State} {n : Fin 32} (h : s.tableHead .denyBatch = some n) :
    exec .denyBatch s = .next (s.chooseCheck.takeBatch n).advanceDeny.driveNote := by
  show execDenyBatch s = _
  rw [execDenyBatch, h]
  rfl

/-- The conditions of R107 in their order, over the offset and the count found there. -/
theorem Memory.rangeFault_eq (m : Memory) (offset : Nat) : m.rangeFault offset =
    if offset < 0x3000 ∨ 0x7FFE < offset then some 0x01#8
    else if m.read16 offset = 0 ∨ 1024 < m.read16 offset then some 0x02#8
    else if 0x8000 < offset + 2 + 12 * m.read16 offset + 2 then some 0x03#8
    else none := by
  have hlength : offset + batchLength (m.batchCount offset) = offset + 2 + 12 * m.read16 offset + 2 := by
    simp only [batchLength, Memory.batchCount]
    omega
  rw [Memory.rangeFault, hlength]
  rfl

/-- A take changes no byte of a batch. -/
theorem State.take_batchCount (s : State) (n : Fin 32) {offset : Nat} (h : 0x3000 ≤ offset) :
    (s.take .table n).mem.read16 offset = s.mem.read16 offset := by
  rw [Memory.read16_eq, Memory.read16_eq, s.take_read_of_le .table n, s.take_read_of_le .table n] <;>
    simp only [Config.mirrorBase] <;> omega

theorem State.take_rangeFault (s : State) (n : Fin 32) (offset : Nat) :
    (s.take .table n).mem.rangeFault offset = s.mem.rangeFault offset := by
  rw [Memory.rangeFault_eq, Memory.rangeFault_eq]
  by_cases hlow : offset < 0x3000
  · rw [if_pos (.inl hlow), if_pos (.inl hlow)]
  · rw [s.take_batchCount n (Nat.not_lt.mp hlow)]

theorem State.takeBatch_of_fault {s : State} {n : Fin 32} {d : Byte} (h : s.mem.rangeFault (s.cellWord n 8) = some d) :
    s.takeBatch n = (s.take .table n).finishBatch n (Outcome.badRequest, d) 0 Config.noneWord := by
  rw [State.takeBatch, State.take_rangeFault, h]

theorem State.takeBatch_of_pass {s : State} {n : Fin 32} (h : s.mem.rangeFault (s.cellWord n 8) = none) :
    s.takeBatch n = ((s.take .table n).hold n
      (.denyBatch (s.cellWord n 8) ((s.take .table n).mem.batchCount (s.cellWord n 8)) 0 false)).askTableJob
        (s.cellWord n 8) (batchLength ((s.take .table n).mem.batchCount (s.cellWord n 8))) := by
  rw [State.takeBatch, State.take_rangeFault, h]

/-- A batch out of its range is answered, and changes its cell alone. -/
theorem State.takeBatch_fault_spec {s : State} (hs : s.memoryCanonical) (hfree : s.table.held = none) {n : Fin 32}
    (hk : s.kindOf n = some .denyBatch) {d : Byte} (h : s.mem.rangeFault (s.cellWord n 8) = some d) :
    (∃ m N, s.takeBatch n = { s with
      mem := m, intake := { s.intake with table := s.intake.table.tail }, notice := s.notice.withCounts N }) ∧
    (s.takeBatch n).answers n ([0x41#8, d, 0#8, 0#8, 0xFF#8, 0xFF#8] ++ le16 s.deny.list.length) ∧
    s.sameBytesBut (s.takeBatch n) (fun a => a = cellBase n ∨ inAnswer n a) := by
  have hanswer : (s.take .table n).batchAnswer (Outcome.badRequest, d) 0 Config.noneWord =
      [0x41#8, d, 0#8, 0#8, 0xFF#8, 0xFF#8] ++ le16 s.deny.list.length := by
    rw [State.batchAnswer, State.take_deny]
    rfl
  rw [State.takeBatch_of_fault h, State.finishBatch, hanswer]
  exact ⟨State.refused_frame hfree (by rw [hk]; decide) _, State.refused_answers hs n _, s.refused_sameBytes n _⟩

/-- A batch in its range is held, and its check asked for. -/
theorem State.takeBatch_pass_spec {s : State} (hs : s.memoryCanonical) {n : Fin 32} {offset count : Nat}
    (hoffset : s.cellWord n 8 = offset) (hcount : count = s.mem.read16 offset) (hlow : 0x3000 ≤ offset)
    (h : s.mem.rangeFault offset = none) :
    (∃ m N, s.takeBatch n = { s with
      mem := m, intake := { s.intake with table := s.intake.table.tail }
      table := { s.table with held := some (n, .denyBatch offset count 0 false) }
      check := { s.check with
        tableJob := some { base := offset, length := 4 + 12 * count, position := 0, remainder := 0xFFFF#16 } }
      notice := s.notice.withCounts N }) ∧
    (s.takeBatch n).cellState n = .taken ∧ s.sameBytesBut (s.takeBatch n) (fun a => a = cellBase n) := by
  subst hoffset
  have hread : (s.take .table n).mem.batchCount (s.cellWord n 8) = count := by
    rw [hcount, ← s.take_batchCount n hlow]
    rfl
  obtain ⟨-, htaken, hbytes⟩ := State.take_spec hs .table n
  obtain ⟨m, N, htake⟩ := s.take_frame .table n
  rw [State.takeBatch_of_pass h, hread]
  generalize s.take .table n = u at htaken hbytes htake ⊢
  refine ⟨⟨m, N, ?_⟩, htaken, hbytes⟩
  rw [htake]
  rfl

/-- The outcomes of the range check, by the conditions on offset and count. -/
theorem Memory.rangeFault_of_fault {m : Memory} {offset count : Nat} {d : Byte} (hcount : count = m.read16 offset)
    (h : (offset < 0x3000 ∨ 0x7FFE < offset) ∧ d = 0x01#8 ∨
      0x3000 ≤ offset ∧ offset ≤ 0x7FFE ∧ (count = 0 ∨ 1024 < count) ∧ d = 0x02#8 ∨
      0x3000 ≤ offset ∧ offset ≤ 0x7FFE ∧ 1 ≤ count ∧ count ≤ 1024 ∧ 0x8000 < offset + 2 + 12 * count + 2 ∧
        d = 0x03#8) : m.rangeFault offset = some d := by
  rw [Memory.rangeFault_eq, ← hcount]
  rcases h with ⟨h, rfl⟩ | ⟨h₁, h₂, h, rfl⟩ | ⟨h₁, h₂, h₃, h₄, h, rfl⟩
  · rw [if_pos h]
  · rw [if_neg (by omega), if_pos h]
  · rw [if_neg (by omega), if_neg (by omega), if_pos h]

theorem Memory.rangeFault_of_range {m : Memory} {offset count : Nat} (hcount : count = m.read16 offset)
    (h₁ : 0x3000 ≤ offset) (h₂ : offset ≤ 0x7FFE) (h₃ : 1 ≤ count) (h₄ : count ≤ 1024)
    (h₅ : offset + 2 + 12 * count + 2 ≤ 0x8000) : m.rangeFault offset = none := by
  rw [Memory.rangeFault_eq, ← hcount, if_neg (by omega), if_neg (by omega), if_neg (by omega)]

/-- Settles O47: the range check decides between an answer and the batch held, guarded and to be checked. -/
theorem denyBatchChecksRange : Obligations.DenyBatchChecksRange := by
  unfold Obligations.DenyBatchChecksRange
  intro s n offset count hs hhead hoffset hcount
  obtain ⟨hfree, -, hk⟩ := State.head_of_tableHead hhead
  rw [exec_denyBatch hhead]
  have hoffset' : s.chooseCheck.cellWord n 8 = offset := hoffset
  cases hfault : s.mem.rangeFault offset with
  | some d =>
    obtain ⟨⟨m, N, h⟩, hanswer, hbytes⟩ := State.takeBatch_fault_spec (s := s.chooseCheck) hs hfree hk (d := d)
      (by rw [hoffset']; exact hfault)
    generalize s.chooseCheck.takeBatch n = v at h hanswer hbytes ⊢
    refine ⟨_, rfl, ?_, hbytes, fun d' hd' => ?_, fun h₁ h₂ h₃ h₄ h₅ => ?_⟩
    · rw [h]
      rfl
    · obtain rfl : d = d' := Option.some.inj (hfault.symm.trans (Memory.rangeFault_of_fault hcount hd'))
      refine ⟨?_, ?_, hanswer⟩
      · rw [h]; rfl
      · rw [h]; rfl
    · rw [Memory.rangeFault_of_range hcount h₁ h₂ h₃ h₄ h₅] at hfault
      cases hfault
  | none =>
    have hlow : 0x3000 ≤ offset := by
      rw [Memory.rangeFault_eq] at hfault
      by_contra hlow
      rw [if_pos (.inl (Nat.not_le.mp hlow))] at hfault
      cases hfault
    obtain ⟨⟨m, N, h⟩, htaken, hbytes⟩ :=
      State.takeBatch_pass_spec (s := s.chooseCheck) hs hoffset' hcount hlow hfault
    generalize s.chooseCheck.takeBatch n = v at h htaken hbytes ⊢
    have hheld : v.advanceDeny.driveNote.table.held = some (n, .denyBatch offset count 0 false) := by
      rw [h]
      rfl
    refine ⟨_, rfl, ?_, State.sameBytesBut.mono hbytes fun _ => .inl, fun d hd => ?_,
      fun _ _ _ _ _ => ⟨hheld, htaken, hbytes, ?_, fun a ha₁ ha₂ => ?_⟩⟩
    · rw [h]
      rfl
    · rw [Memory.rangeFault_of_fault hcount hd] at hfault
      cases hfault
    · rw [h]
      rfl
    · exact (State.guarded_iff _).mpr
        (.inr (.inr ⟨hlow.trans ha₁, _, offset, count, 0, false, hheld, rfl, ha₁, ha₂⟩))

/-! ### The deny list unit at the end of a lookup (R105, R106) -/

/-- A completion and the end of its event change the operation in service and the sweep of a DAY_CHANGE that waited. -/
theorem DenyUnit.advance_complete (u : DenyUnit) : u.complete.advance =
    DenyUnit.advance { u with sweep := u.complete.advance.sweep, dayWaiting := none, serving := none } := by
  rw [DenyUnit.advance_sweep, ← congrArg DenyUnit.advance (u.complete_spec.symm)]
  rw [DenyUnit.complete_spec]

theorem DenyUnit.advance_complete_sweep_of_none {u : DenyUnit} (h : u.dayWaiting = none) :
    u.complete.advance.sweep = u.sweep := by
  rw [DenyUnit.advance_sweep, DenyUnit.complete_spec, h]

theorem DenyUnit.advance_complete_sweep_of_some {u : DenyUnit} {day : Nat} (h : u.dayWaiting = some day) :
    u.complete.advance.sweep = u.list.head?.map fun e => { day := day, position := e.mediaId } := by
  rw [DenyUnit.advance_sweep, DenyUnit.complete_spec, h]

theorem DenyUnit.serves_of_choose {u : DenyUnit} {who : LookupRequester}
    (h : u.choose.serving = some (.lookup none) ∨ u.choose.serving = some (.lookup (some who))) : u.serves who = true := by
  rcases h with h | h <;> simp [DenyUnit.serves, h]

/-! ### DENY-PROBE (R116, R117) -/

theorem exec_denyProbe {s : State} {n : Fin 32} (h : s.tableHead .denyProbe = some n) :
    exec .denyProbe s = (s.takeProbe n).event := by
  show execDenyProbe s = _
  rw [execDenyProbe, h]

theorem beValue_eq_foldl (bs : List Byte) : beValue bs = bs.foldl (fun v b => 256 * v + b.toNat) 0 := by
  have hle (l : List Byte) : leValue l = l.foldr (fun b v => 256 * v + b.toNat) 0 := by
    induction l with
    | nil => rfl
    | cons b l ih => rw [leValue, ih, List.foldr_cons, Nat.add_comm]
  rw [beValue, hle, List.foldr_reverse]

theorem State.probeMedia_eq (s : State) (n : Fin 32) :
    s.probeMedia n = (List.range 7).foldl (fun v i => 256 * v + (s.cellByte n (8 + i)).toNat) 0 := by
  simp only [State.probeMedia, beValue_eq_foldl, Memory.readList, List.foldl_map, State.cellByte, Config.bodyOffset,
    Nat.add_assoc]

/-- A free unit that a probe waits at begins a lookup at the end of the event. -/
theorem DenyUnit.advance_of_probe {u : DenyUnit} (hfree : u.serving = none) (media : Nat) :
    (DenyUnit.advance { u with probeLookup := some media }).serving =
      some (.lookup (if u.engineLookup.isSome then none else some .tableUnit)) := by
  rw [DenyUnit.advance_spec, DenyUnit.next_spec, hfree]
  cases u.engineLookup <;> rfl

theorem exec_probeLookup {s : State} {media : Nat} (hserves : s.deny.serves .tableUnit = true)
    (hlookup : s.deny.probeLookup = some media) : exec (.denyLookup .tableUnit) s = (s.serveProbe media).event := by
  show execDenyLookup .tableUnit s = _
  unfold execDenyLookup
  rw [hserves, hlookup]

/-- The deny list unit without the probe's lookup, which has been served. -/
abbrev State.probeServed (s : State) : State :=
  { s with deny := { s.deny with probeLookup := none } }

theorem State.serveProbe_of_held {s : State} {n : Fin 32} (hheld : s.table.held = some (n, .denyProbe)) (media : Nat) :
    s.serveProbe media = (s.probeServed.finishTable n (s.probeAnswer media)).completeDeny := by
  rw [State.serveProbe]
  dsimp only
  rw [hheld]
  rfl

theorem State.probeAnswer_of_absent {s : State} {media : Nat} (h : denyEntry s.deny.list media = none) :
    s.probeAnswer media = [0x01#8, 0x00#8, 0#8, 0#8, 0#8] ++ le16 s.clock.day ++ le16 s.deny.list.length := by
  rw [State.probeAnswer, h]
  rfl

theorem State.probeAnswer_of_found {s : State} {media : Nat} {e : DenyEntry} (h : denyEntry s.deny.list media = some e) :
    s.probeAnswer media = [0x01#8, if e.expiry = 0xFFFF ∨ s.clock.day ≤ e.expiry then 0x01#8 else 0x02#8,
      byteOf e.reason] ++ le16 e.expiry ++ le16 s.clock.day ++ le16 s.deny.list.length := by
  rw [State.probeAnswer, h]
  simp only [DenyEntry.denies, Config.noneWord, decide_eq_true_eq]
  rfl

/-- Settles O48: the probe held with its lookup waiting, and the probe answered from the entry its lookup finds. -/
theorem denyProbeAsksAndIsAnswered : Obligations.DenyProbeAsksAndIsAnswered := by
  unfold Obligations.DenyProbeAsksAndIsAnswered
  refine ⟨fun s n hs hhead => ?_, fun s n media hs hserving hlookup hheld hk => ?_⟩
  · obtain ⟨-, htaken, hbytes⟩ := State.take_spec hs .table n
    obtain ⟨m, N, htake⟩ := s.take_frame .table n
    have hprobe : s.takeProbe n = ((s.take .table n).hold n .denyProbe).askProbeLookup (s.probeMedia n) := rfl
    rw [exec_denyProbe hhead, hprobe, ← State.probeMedia_eq]
    generalize s.take .table n = u at htaken hbytes htake ⊢
    refine ⟨_, rfl, ?_, fun hfree => ?_, htaken, hbytes⟩
    · rw [htake]
      rfl
    · rw [htake]
      exact DenyUnit.advance_of_probe hfree _
  · have hanswer := State.finishTable_answers (s := s.probeServed) hs n (s.probeAnswer media)
    have hbytes := s.probeServed.finishTable_sameBytes n (s.probeAnswer media)
    obtain ⟨m, N, h⟩ := s.probeServed.finishTable_frame_of_ne (n := n)
      (by rw [show s.probeServed.kindOf n = _ from hk]; decide) (s.probeAnswer media)
    rw [exec_probeLookup (DenyUnit.serves_of_choose hserving) hlookup, State.serveProbe_of_held hheld]
    generalize s.probeServed.finishTable n (s.probeAnswer media) = v at hanswer hbytes h ⊢
    refine ⟨_, rfl, ?_, fun habsent => ?_, fun e hfound => ?_, hbytes⟩
    · rw [h]
      have hdeny := DenyUnit.advance_complete { s.deny with probeLookup := none }
      exact congrArg (fun d : DenyUnit => ({ s.settled with
        mem := m, table := { s.table with held := none }, deny := d, notice := _ } : State)) hdeny
    · rw [← State.probeAnswer_of_absent habsent]
      exact hanswer
    · rw [← State.probeAnswer_of_found hfound]
      exact hanswer

end Sys2Proof.Machine
end

section
/-!
The JOURNEY requests (chapter 7). What a move of the train leaves, once it has been answered; then DEPART, ARRIVE, PASS and
SET by their own effects, and the rows of Table 7-1 that refuse one of them.
-/

namespace Sys2Proof.Machine

/-! ### The commands (R124) -/

theorem exec_depart {s : State} {n : Fin 32} (h : s.eventHead 1#8 = some n) : exec .depart s = (s.serveDepart n).event := by
  show execDepart s = _
  rw [execDepart, h]

theorem exec_arrive {s : State} {n : Fin 32} (h : s.eventHead 2#8 = some n) : exec .arrive s = (s.serveArrive n).event := by
  show execArrive s = _
  rw [execArrive, h]

theorem exec_pass {s : State} {n : Fin 32} (h : s.eventHead 3#8 = some n) : exec .pass s = (s.servePass n).event := by
  show execPass s = _
  rw [execPass, h]

theorem exec_set {s : State} {n : Fin 32} (h : s.eventHead 4#8 = some n) : exec .set s = (s.serveSet n).event := by
  show execSet s = _
  rw [execSet, h]

theorem exec_journeyBadEvent {s : State} {n : Fin 32} (h : s.badEventHead = some n) :
    exec .journeyBadEvent s = (s.serveBadEvent n).event := by
  show execJourneyBadEvent s = _
  rw [execJourneyBadEvent, h]

theorem State.kindOf_of_eventHead {s : State} {e : Byte} {n : Fin 32} (h : s.eventHead e = some n) :
    s.kindOf n = some .journey :=
  (State.head_of_journeyHead (State.head_of_eventHead h).1).2

/-! ### A move and its answer (R124, R139, R180) -/

/-- A move ends with the mirror written, and touches no other byte. -/
theorem State.rewritten {s u : State} (hs : s.memoryCanonical) (hmem : u.mem = s.mem) :
    u.rewriteMirror.memoryCanonical ∧ s.sameBytesBut u.rewriteMirror inMirror := by
  refine ⟨State.rewriteMirror_memoryCanonical ?_, (State.sameBytesBut.of_mem hmem).trans (State.rewriteMirror_sameBytesBut u)⟩
  rw [State.memoryCanonical, hmem]
  exact hs

/-- The train moved and the request answered: the position, the service state, the round list and the flags are the
move's, and the answer shows them. -/
theorem State.moved_spec {s w : State} {n : Fin 32} (hk : s.kindOf n = some .journey) {j : Journey} {u : TableUnit}
    {l : List RoundEntry} {F : BitVec 9}
    (hw : ∃ m, w = { s.take .journey n with
      mem := m, journey := j, table := u, rounds := l, notice := { (s.take .journey n).notice with flags := F } })
    (hcanonical : w.memoryCanonical) (hbytes : (s.take .journey n).sameBytesBut w inMirror) (r : Reply) (k : Nat) :
    (∃ m N, w.answerJourney n r k = { s with
      mem := m, intake := { s.intake with journey := s.intake.journey.tail }, journey := j, table := u, rounds := l
      notice := { s.notice with flags := F }.withCounts N }) ∧
    (w.answerJourney n r k).answers n ([r.1, r.2, byteOf u.service.code,
      byteOf (if j.kind = .nowhere then 0xFF else j.stop), byteOf j.kind.code] ++ le16 j.round ++ [byteOf k]) ∧
    s.sameBytesBut (w.answerJourney n r k) (fun a => a = cellBase n ∨ inAnswer n a ∨ inMirror a) := by
  obtain ⟨m, hw⟩ := hw
  obtain ⟨m', N', htake⟩ := s.take_frame .journey n
  have hk' : w.kindOf n ≠ some .inspect := by
    have hsame : w.kindOf n = s.kindOf n := by
      rw [hw]
      exact s.kindOf_take .journey n n
    rw [hsame, hk]
    decide
  have hanswer := State.post_answers hcanonical n (w.journeyAnswer r k) none
  have hjourney : w.journey = j := by rw [hw]
  have htable : w.table = u := by rw [hw]
  obtain ⟨m'', N, hpost⟩ := w.post_frame_of_ne hk' (w.journeyAnswer r k) none
  refine ⟨⟨m'', N, ?_⟩, ?_, ?_⟩
  · rw [State.answerJourney, hpost, hw, htake]
    rfl
  · rw [State.journeyAnswer, hjourney, htable] at hanswer
    rw [State.answerJourney, State.journeyAnswer, hjourney, htable]
    exact hanswer
  · exact ((s.take_sameBytes .journey n).mono fun _ => .inl).trans ((hbytes.mono fun _ h => .inr (.inr h)).trans
      ((w.post_sameBytes n _).mono fun _ h => h.imp_right .inl))

/-! ### Flags of a move -/

theorem State.flag_congr {s t : State} (h : t.notice.flags = s.notice.flags) (f : EventFlag) : t.flag f = s.flag f := by
  rw [State.flag, h, State.flag]

/-- The flags after the boundaries of a path, of which there may be none (R131). -/
theorem State.flag_of_boundaries {s t : State} {p : Prop} [Decidable p]
    (h : t.notice.flags = if p then s.notice.flags
      else (s.notice.flags &&& ~~~ EventFlag.firstFault.bit) ||| EventFlag.boundary.bit) (f : EventFlag) :
    t.flag f = if p then s.flag f else (s.flag f && decide (f ≠ .firstFault)) || decide (f = .boundary) := by
  by_cases hp : p
  · rw [if_pos hp] at h ⊢
    exact State.flag_congr h f
  · rw [if_neg hp] at h ⊢
    rw [State.flag_congr (s := (s.clearFlag .firstFault).raise .boundary) h, State.flag_raise, State.flag_clearFlag]

/-- The flags after one that an event raises under a condition. -/
theorem State.flag_of_or {s t : State} {f : EventFlag} {p : Prop} [Decidable p]
    (h : t.notice.flags = s.notice.flags ||| if p then f.bit else 0#9) (g : EventFlag) :
    t.flag g = (s.flag g || decide (p ∧ g = f)) := by
  by_cases hp : p
  · rw [if_pos hp] at h
    rw [State.flag_congr (s := s.raise f) h, State.flag_raise]
    simp [hp]
  · rw [if_neg hp, BitVec.or_zero] at h
    rw [State.flag_congr h]
    simp [hp]

/-! ### DEPART (R125) -/

theorem State.serveDepart_of_inSection {s : State} (hservice : s.table.service = .inService)
    (hkind : s.journey.kind = .inSection) (n : Fin 32) :
    s.serveDepart n = (s.take .journey n).answerJourney n (Outcome.done, 0x01#8) 0 := by
  rw [State.serveDepart, hservice]
  exact if_pos hkind

theorem State.serveDepart_of_atStop {s : State} (hservice : s.table.service = .inService)
    (hkind : s.journey.kind = .atStop) (n : Fin 32) : s.serveDepart n =
      (State.rewriteMirror { s.take .journey n with
        journey := { (s.take .journey n).journey with kind := .inSection } }).answerJourney n (Outcome.done, 0#8) 0 := by
  rw [State.serveDepart, hservice]
  exact if_neg (by rw [State.take_journey, hkind]; decide)

/-- Settles O39: the position before DEPART is a section, which stays, or a stop. -/
theorem departEntersSection : Obligations.DepartEntersSection := by
  unfold Obligations.DepartEntersSection
  intro s n hs hhead hservice hnowhere
  have hk := State.kindOf_of_eventHead hhead
  rw [exec_depart hhead]
  by_cases hkind : s.journey.kind = .inSection
  · have hanswer : (s.take .journey n).journeyAnswer (Outcome.done, 0x01#8) 0 =
        [0x01#8, 0x01#8, 0x02#8, byteOf s.journey.stop, 0x02#8] ++ le16 s.journey.round ++ [0#8] := by
      rw [State.journeyAnswer, State.take_table, State.take_journey, hservice, hkind]
      rfl
    obtain ⟨m, N, h⟩ := s.answered_frame .journey (n := n) (by rw [hk]; decide)
      ([0x01#8, 0x01#8, 0x02#8, byteOf s.journey.stop, 0x02#8] ++ le16 s.journey.round ++ [0#8])
    rw [State.serveDepart_of_inSection hservice hkind, State.answerJourney, hanswer, if_pos hkind]
    refine ⟨_, rfl, ?_, (State.answered_answers hs .journey n _).event,
      State.sameBytesBut.event ((s.answered_sameBytes .journey n _).mono fun _ h => h.imp_right .inl)⟩
    rw [h, ← hkind]
    rfl
  · have hstop : s.journey.kind = .atStop := by
      cases h : s.journey.kind with
      | atStop => rfl
      | nowhere => exact absurd h hnowhere
      | inSection => exact absurd h hkind
    obtain ⟨hcanonical, hbytes⟩ := State.rewritten (State.take_memoryCanonical hs .journey n)
      (u := { s.take .journey n with journey := { (s.take .journey n).journey with kind := .inSection } }) rfl
    obtain ⟨⟨m, N, h⟩, hanswer, hbytes⟩ := State.moved_spec hk (j := { s.journey with kind := .inSection })
      (u := s.table) (l := s.rounds) (F := s.notice.flags)
      (by rw [State.rewriteMirror_eq, State.take_journey, State.take_journey_eq]; exact ⟨_, rfl⟩)
      hcanonical hbytes (Outcome.done, 0#8) 0
    rw [State.serveDepart_of_atStop hservice hstop, if_neg hkind]
    rw [hservice] at hanswer
    refine ⟨_, rfl, ?_, State.answers.event hanswer,
      State.sameBytesBut.event (hbytes.mono fun _ h => h.imp_right (Or.imp_right fun h => ⟨hstop, h⟩))⟩
    rw [h]
    rfl

/-! ### ARRIVE (R126, R127) -/

theorem State.arriveAt_rewritten (s : State) (target : Nat) : ∃ u : State, u.mem = s.mem ∧ s.arriveAt target = u.rewriteMirror := by
  unfold State.arriveAt
  dsimp only
  refine ⟨_, ?_, rfl⟩
  split <;> simp only [State.terminate, State.raise_mem, State.boundaries_mem]

theorem State.passNext_rewritten (s : State) : ∃ u : State, u.mem = s.mem ∧ s.passNext = u.rewriteMirror := by
  unfold State.passNext
  dsimp only
  refine ⟨_, ?_, rfl⟩
  rw [State.boundaries_mem]

theorem State.setPosition_rewritten (s : State) (stop : Nat) (kind : PosKind) :
    ∃ u : State, u.mem = s.mem ∧ s.setPosition stop kind = u.rewriteMirror := by
  unfold State.setPosition
  dsimp only
  refine ⟨_, ?_, rfl⟩
  split <;> rfl

/-- No row of Table 7-1 holds of an ARRIVE at a stop ahead within the round's range. -/
theorem State.arriveFault_of_accepted {s : State} {n : Fin 32} {target : Nat}
    (htarget : s.journeyStop n = none ∧ target = s.mem.header.next s.journey.stop ∨
      s.journeyStop n = some target ∧ target < s.mem.header.stops ∧ s.mem.header.ahead target s.journey.stop = true)
    (hround : s.journey.round + s.mem.boundaryCount (s.arrivePath target) ≤ 65535) :
    s.arriveTarget n = target ∧ s.arriveFault n = none := by
  have hat : s.arriveTarget n = target := by
    rcases htarget with ⟨hstop, rfl⟩ | ⟨hstop, -⟩ <;> rw [State.arriveTarget, hstop] <;> rfl
  have hlimit : ¬ s.roundLimit (s.mem.boundaryCount (s.arrivePath target)) = true := by
    simp only [State.roundLimit, Config.wordMax, decide_eq_true_eq]
    omega
  refine ⟨hat, ?_⟩
  rw [State.arriveFault, hat]
  rcases htarget with ⟨hstop, -⟩ | ⟨hstop, hlt, hahead⟩ <;> rw [hstop]
  · exact if_neg hlimit
  · simp only [Option.any_some, hahead, Bool.not_true, decide_eq_true_eq, if_neg (Nat.not_le.mpr hlt),
      if_neg hlimit, Bool.false_eq_true, if_false]

/-- Settles O40: the boundaries of the path, then STOP_REACHED, then the terminus. -/
theorem arriveMovesTrain : Obligations.ArriveMovesTrain := by
  unfold Obligations.ArriveMovesTrain
  intro s n target count hs hhead hservice htarget hcount hround
  have hk := State.kindOf_of_eventHead hhead
  have hcount : s.mem.boundaryCount (s.arrivePath target) = count := hcount.symm
  obtain ⟨hat, hfault⟩ := State.arriveFault_of_accepted htarget (hcount ▸ hround)
  obtain ⟨m, hspec⟩ := (s.take .journey n).arriveAt_spec target
  obtain ⟨u, hmem, hu⟩ := (s.take .journey n).arriveAt_rewritten target
  obtain ⟨hcanonical, hbytes⟩ := State.rewritten (State.take_memoryCanonical hs .journey n) hmem
  rw [← hu] at hcanonical hbytes
  simp only [State.take_boundaryCount, State.take_arrivePath, State.take_header, State.take_journey, State.take_table,
    State.take_rounds, State.take_flags, hcount, hservice] at hspec
  obtain ⟨⟨m', N, h⟩, hanswer, hbytes⟩ := State.moved_spec hk ⟨m, hspec⟩ hcanonical hbytes (Outcome.done, 0#8) count
  rw [exec_arrive hhead, State.serveArrive_of_accepted (by rw [hservice, hfault]; rfl), hat, hcount]
  generalize ((s.take .journey n).arriveAt target).answerJourney n (Outcome.done, 0#8) count = v at h hanswer hbytes ⊢
  -- the three parts of the flags, in the order in which they change
  let bounded : State := { s with notice := { s.notice with flags := if count = 0 then s.notice.flags
    else (s.notice.flags &&& ~~~ EventFlag.firstFault.bit) ||| EventFlag.boundary.bit } }
  have hflag (f : EventFlag) : v.flag f = ((if count = 0 then s.flag f
      else (s.flag f && decide (f ≠ .firstFault)) || decide (f = .boundary)) || decide (f = .stopReached) ||
        decide (target = s.mem.header.terminus ∧ f = .terminus)) := by
    rw [State.flag_of_or (s := bounded.raise .stopReached) (f := .terminus) (p := target = s.mem.header.terminus)
      (by rw [h]; rfl), State.flag_raise, State.flag_of_boundaries (s := s) (t := bounded) (p := count = 0) rfl]
  refine ⟨_, rfl, ?_, State.sameFlagsBut.event fun f hf => ?_, ?_, ?_, ?_, ?_, State.answers.event ?_, hbytes.event⟩
  · rw [h]
    rfl
  · rw [hflag]
    simp only [List.mem_cons, List.not_mem_nil, or_false, not_or] at hf
    simp [hf]
  · rw [State.flag_event, hflag]
    simp
  · rw [State.flag_event, hflag]
    by_cases hzero : count = 0 <;> simp [hzero, Nat.pos_iff_ne_zero]
  · rw [State.flag_event, hflag]
    by_cases hzero : count = 0 <;> simp [hzero]
  · rw [State.flag_event, hflag]
    by_cases hzero : count = 0 <;> simp [hzero]
  · by_cases hterminus : target = s.mem.header.terminus
    · rw [if_pos hterminus] at hanswer ⊢
      exact hanswer
    · rw [if_neg hterminus] at hanswer ⊢
      exact hanswer

/-! ### PASS (R128) -/

theorem Memory.boundaryCount_singleton (m : Memory) (j : Nat) : m.boundaryCount [j] = if m.isBoundary j then 1 else 0 := by
  rw [Memory.boundaryCount, List.countP_singleton]

/-- No row of Table 7-1 holds of a PASS short of the terminus within the round's range. -/
theorem State.passFault_of_accepted {s : State} (hkind : s.journey.kind = .inSection)
    (hnext : s.mem.header.next s.journey.stop ≠ s.mem.header.terminus)
    (hround : s.journey.round + s.mem.boundaryCount [s.mem.header.next s.journey.stop] ≤ 65535) : s.passFault = none := by
  have hlimit : ¬ s.roundLimit (s.mem.boundaryCount [s.mem.header.next s.journey.stop]) = true := by
    simp only [State.roundLimit, Config.wordMax, decide_eq_true_eq]
    omega
  rw [State.passFault]
  rw [if_neg (not_not.mpr hkind), if_neg hnext, if_neg hlimit]

/-- Settles O41: the boundary of the stop passed, where it is flagged. -/
theorem passMovesSection : Obligations.PassMovesSection := by
  unfold Obligations.PassMovesSection
  rintro s n next count hs hhead hservice hkind hnext hterminus hcount hround
  have hk := State.kindOf_of_eventHead hhead
  rw [← Memory.boundaryCount_singleton] at hcount
  have hfault : s.passFault = none := State.passFault_of_accepted hkind (hnext ▸ hterminus) (by rw [← hnext, ← hcount]; exact hround)
  obtain ⟨m, hspec⟩ := (s.take .journey n).passNext_spec
  obtain ⟨u, hmem, hu⟩ := (s.take .journey n).passNext_rewritten
  obtain ⟨hcanonical, hbytes⟩ := State.rewritten (State.take_memoryCanonical hs .journey n) hmem
  rw [← hu] at hcanonical hbytes
  simp only [State.take_boundaryCount, State.take_header, State.take_journey, State.take_rounds, State.take_flags,
    ← hnext, ← hcount] at hspec
  obtain ⟨⟨m', N, h⟩, hanswer, hbytes⟩ := State.moved_spec hk (u := s.table) ⟨m, hspec⟩ hcanonical hbytes
    (Outcome.done, 0#8) count
  rw [exec_pass hhead, State.servePass_of_accepted (by rw [hservice, hfault]; rfl), ← hnext, ← hcount]
  generalize ((s.take .journey n).passNext).answerJourney n (Outcome.done, 0#8) count = v at h hanswer hbytes ⊢
  have hflag (f : EventFlag) : v.flag f = if count = 0 then s.flag f
      else (s.flag f && decide (f ≠ .firstFault)) || decide (f = .boundary) :=
    State.flag_of_boundaries (by rw [h]; rfl) f
  refine ⟨_, rfl, ?_, State.sameFlagsBut.event fun f hf => ?_, ?_, ?_, State.answers.event ?_, hbytes.event⟩
  · rw [h]
    rfl
  · rw [hflag]
    simp only [List.mem_cons, List.not_mem_nil, or_false, not_or] at hf
    simp [hf]
  · rw [State.flag_event, hflag]
    by_cases hzero : count = 0 <;> simp [hzero, Nat.pos_iff_ne_zero]
  · rw [State.flag_event, hflag]
    by_cases hzero : count = 0 <;> simp [hzero]
  · rw [hservice, hkind] at hanswer
    exact hanswer

/-! ### SET (R129) -/

theorem State.journeyKind_eq {s : State} {n : Fin 32} {kind : PosKind} (h : s.cellByte n 10 = byteOf kind.code)
    (hkind : kind ≠ .nowhere) : s.journeyKind n = some kind := by
  rw [State.journeyKind, h]
  cases kind with
  | nowhere => exact absurd rfl hkind
  | atStop | inSection => rfl

theorem State.setTarget_of_accepted {s : State} {n : Fin 32} {stop : Nat} {kind : PosKind}
    (hstop : s.journeyStop n = some stop) (hkind : s.journeyKind n = some kind) (hlt : stop < s.mem.header.stops)
    (hsection : ¬ (kind = .inSection ∧ stop = s.mem.header.terminus)) : s.setTarget n = .ok (stop, kind) := by
  rw [State.setTarget, hstop, hkind]
  dsimp only
  rw [if_neg (Nat.not_le.mpr hlt), if_neg hsection]

theorem State.serveSet_of_accepted {s : State} {n : Fin 32} {stop : Nat} {kind : PosKind}
    (hservice : s.table.service = .inService) (htarget : s.setTarget n = .ok (stop, kind)) :
    s.serveSet n = ((s.take .journey n).setPosition stop kind).answerJourney n (Outcome.done, 0#8) 0 := by
  rw [State.serveSet, hservice, htarget]
  rfl

/-- Settles O42: the position placed, and TERMINUS where the train stands at the terminus. -/
theorem setPlacesTrain : Obligations.SetPlacesTrain := by
  unfold Obligations.SetPlacesTrain
  intro s n stop kind hs hhead hservice hstop hlt hbyte hkind hsection
  have hk := State.kindOf_of_eventHead hhead
  have htarget := State.setTarget_of_accepted hstop (State.journeyKind_eq hbyte hkind) hlt hsection
  obtain ⟨m, hspec⟩ := (s.take .journey n).setPosition_spec stop kind
  obtain ⟨u, hmem, hu⟩ := (s.take .journey n).setPosition_rewritten stop kind
  obtain ⟨hcanonical, hbytes⟩ := State.rewritten (State.take_memoryCanonical hs .journey n) hmem
  rw [← hu] at hcanonical hbytes
  simp only [State.take_header, State.take_journey, State.take_table, State.take_flags, hservice] at hspec
  obtain ⟨⟨m', N, h⟩, hanswer, hbytes⟩ := State.moved_spec hk (l := s.rounds) ⟨m, hspec⟩ hcanonical hbytes
    (Outcome.done, 0#8) 0
  rw [exec_set hhead, State.serveSet_of_accepted hservice htarget]
  generalize ((s.take .journey n).setPosition stop kind).answerJourney n (Outcome.done, 0#8) 0 = v at h hanswer hbytes ⊢
  have hflag (f : EventFlag) : v.flag f =
      (s.flag f || decide ((kind = .atStop ∧ stop = s.mem.header.terminus) ∧ f = .terminus)) :=
    State.flag_of_or (by rw [h]; rfl) f
  refine ⟨_, rfl, ?_, State.sameFlagsBut.event fun f hf => ?_, ?_, State.answers.event ?_, hbytes.event⟩
  · rw [h]
    rfl
  · rw [hflag]
    simp only [List.mem_singleton] at hf
    simp [hf]
  · rw [State.flag_event, hflag]
    simp
  · rw [if_neg hkind] at hanswer
    by_cases hterminus : kind = .atStop ∧ stop = s.mem.header.terminus
    · rw [if_pos hterminus] at hanswer ⊢
      exact hanswer
    · rw [if_neg hterminus] at hanswer ⊢
      exact hanswer

/-! ### The rows of Table 7-1 -/

theorem State.eventHead_of_journeyHead {s : State} {n : Fin 32} {e : Byte} (hhead : s.journeyHead .journey = some n)
    (hevent : s.journeyEvent n = e) : s.eventHead e = some n := by
  rw [State.eventHead, Option.filter_eq_some_iff, decide_eq_true_eq]
  exact ⟨hhead, hevent⟩

theorem State.badEventHead_of_journeyHead {s : State} {n : Fin 32} (hhead : s.journeyHead .journey = some n)
    (hevent : s.journeyEvent n ∉ [1#8, 2#8, 3#8, 4#8]) : s.badEventHead = some n := by
  rw [State.badEventHead, Option.filter_eq_some_iff]
  simp only [List.mem_cons, List.not_mem_nil, or_false] at hevent
  exact ⟨hhead, by rw [decide_eq_false hevent]; rfl⟩

/-- What the journey unit makes of the command that carries an event. -/
def State.serveJourney (s : State) (n : Fin 32) (event : Byte) : State :=
  if event = 1#8 then s.serveDepart n
  else if event = 2#8 then s.serveArrive n
  else if event = 3#8 then s.servePass n
  else if event = 4#8 then s.serveSet n
  else s.serveBadEvent n

theorem exec_journey {s : State} {n : Fin 32} {c : Instr} {event : Byte} (hhead : s.journeyHead .journey = some n)
    (hevent : s.journeyEvent n = event)
    (hc : event = 1#8 ∧ c = .depart ∨ event = 2#8 ∧ c = .arrive ∨ event = 3#8 ∧ c = .pass ∨ event = 4#8 ∧ c = .set ∨
      event ∉ [1#8, 2#8, 3#8, 4#8] ∧ c = .journeyBadEvent) : exec c s = (s.serveJourney n event).event := by
  rcases hc with ⟨rfl, rfl⟩ | ⟨rfl, rfl⟩ | ⟨rfl, rfl⟩ | ⟨rfl, rfl⟩ | ⟨hbad, rfl⟩
  · exact exec_depart (State.eventHead_of_journeyHead hhead hevent)
  · exact exec_arrive (State.eventHead_of_journeyHead hhead hevent)
  · exact exec_pass (State.eventHead_of_journeyHead hhead hevent)
  · exact exec_set (State.eventHead_of_journeyHead hhead hevent)
  · rw [exec_journeyBadEvent (State.badEventHead_of_journeyHead hhead (hevent ▸ hbad)), State.serveJourney]
    simp only [List.mem_cons, List.not_mem_nil, or_false, not_or] at hbad
    obtain ⟨h₁, h₂, h₃, h₄⟩ := hbad
    rw [if_neg h₁, if_neg h₂, if_neg h₃, if_neg h₄]

/-- Rows 1 and 2, whatever the event: no service to move in. -/
theorem State.serveJourney_of_stateRefusal {s : State} {r : Reply} (h : stateRefusal s.table.service = some r)
    (n : Fin 32) (event : Byte) : s.serveJourney n event = s.refuseJourney n r := by
  have hdepart : s.serveDepart n = s.refuseJourney n r := by rw [State.serveDepart, h]
  have harrive : s.serveArrive n = s.refuseJourney n r := State.serveArrive_of_refused (by rw [h]; rfl)
  have hpass : s.servePass n = s.refuseJourney n r := State.servePass_of_refused (by rw [h]; rfl)
  have hset : s.serveSet n = s.refuseJourney n r := by rw [State.serveSet, h]
  have hbad : s.serveBadEvent n = s.refuseJourney n r := by rw [State.serveBadEvent, h]; rfl
  rw [State.serveJourney, hdepart, harrive, hpass, hset, hbad, ite_self, ite_self, ite_self, ite_self]

section
variable {s : State} {n : Fin 32} (hservice : s.table.service = .inService)
include hservice

theorem State.serveArrive_of_fault {r : Reply} (h : s.arriveFault n = some r) : s.serveJourney n 2#8 = s.refuseJourney n r :=
  State.serveArrive_of_refused (by rw [hservice, h]; rfl)

theorem State.servePass_of_fault {r : Reply} (h : s.passFault = some r) : s.serveJourney n 3#8 = s.refuseJourney n r :=
  State.servePass_of_refused (by rw [hservice, h]; rfl)

theorem State.serveSet_of_fault {r : Reply} (h : s.setTarget n = .error r) : s.serveJourney n 4#8 = s.refuseJourney n r := by
  show s.serveSet n = _
  rw [State.serveSet, hservice, h]
  rfl

theorem State.serveBadEvent_of_inService {event : Byte} (h : event ∉ [1#8, 2#8, 3#8, 4#8]) :
    s.serveJourney n event = s.refuseJourney n (badRequest 0x01#8) := by
  simp only [List.mem_cons, List.not_mem_nil, or_false, not_or] at h
  obtain ⟨h₁, h₂, h₃, h₄⟩ := h
  rw [State.serveJourney, if_neg h₁, if_neg h₂, if_neg h₃, if_neg h₄, State.serveBadEvent, hservice]
  rfl

end

/-- Rows 4 and 5 for an ARRIVE: no such stop, or none ahead. -/
theorem State.arriveFault_of_range {s : State} {n : Fin 32} {i : Nat} (hstop : s.journeyStop n = some i)
    (h : s.mem.header.stops ≤ i) : s.arriveFault n = some (badRequest 0x02#8) := by
  rw [State.arriveFault, hstop]
  exact if_pos (decide_eq_true h)

theorem State.arriveFault_of_behind {s : State} {n : Fin 32} {i : Nat} (hstop : s.journeyStop n = some i)
    (hlt : i < s.mem.header.stops) (h : s.mem.header.ahead i s.journey.stop = false) :
    s.arriveFault n = some (badRequest 0x03#8) := by
  rw [State.arriveFault, hstop]
  simp only [Option.any_some, h, Bool.not_false, decide_eq_true_eq, if_neg (Nat.not_le.mpr hlt), if_true]

/-- Row 6 for an ARRIVE: the round's range. -/
theorem State.arriveFault_of_limit {s : State} {n : Fin 32}
    (hstop : ∀ i, s.journeyStop n = some i → i < s.mem.header.stops ∧ s.mem.header.ahead i s.journey.stop = true)
    (h : 65535 < s.journey.round + s.mem.boundaryCount (s.arrivePath (s.arriveTarget n))) :
    s.arriveFault n = some (badRequest 0x09#8) := by
  have hlimit : s.roundLimit (s.mem.boundaryCount (s.arrivePath (s.arriveTarget n))) = true := decide_eq_true h
  rw [State.arriveFault]
  cases hgiven : s.journeyStop n with
  | none => exact if_pos hlimit
  | some i =>
    obtain ⟨hlt, hahead⟩ := hstop i hgiven
    simp only [Option.any_some, hahead, Bool.not_true, decide_eq_true_eq, if_neg (Nat.not_le.mpr hlt),
      Bool.false_eq_true, if_false, if_pos hlimit]

/-- Settles O43: each row of Table 7-1 ends in one refusal, which answers the cell and nothing else. -/
theorem journeyRefusalsChangeNothing : Obligations.JourneyRefusalsChangeNothing := by
  unfold Obligations.JourneyRefusalsChangeNothing
  intro s n c event outcome detail hs hhead hevent hc hrow
  have hk := (State.head_of_journeyHead hhead).2
  have hserve : s.serveJourney n event = s.refuseJourney n (outcome, detail) := by
    rcases hrow with ⟨hservice, rfl, rfl⟩ | ⟨hservice, rfl, rfl⟩ | ⟨hservice, rfl, hrow⟩
    · exact State.serveJourney_of_stateRefusal (by rcases hservice with h | h <;> rw [h] <;> rfl) n event
    · exact State.serveJourney_of_stateRefusal (by rw [hservice]; rfl) n event
    rcases hrow with ⟨hbad, rfl⟩ | ⟨rfl | rfl, ⟨i, hstop, hrange⟩, rfl⟩ | ⟨rfl, ⟨i, hstop, hlt, hbehind⟩, rfl⟩ |
      ⟨rfl, hstop, hlimit, rfl⟩ | ⟨rfl, hkind, rfl⟩ | ⟨rfl, hkind, hterminus, rfl⟩ |
      ⟨rfl, hkind, hterminus, hboundary, hround, rfl⟩ | ⟨rfl, hstop, rfl⟩ | ⟨rfl, ⟨i, hstop, hlt⟩, h₁, h₂, rfl⟩ |
      ⟨rfl, hstop, hlt, hsection, rfl⟩
    · exact State.serveBadEvent_of_inService hservice hbad
    · exact State.serveArrive_of_fault hservice (State.arriveFault_of_range hstop hrange)
    · refine State.serveSet_of_fault hservice ?_
      rw [State.setTarget, hstop]
      exact if_pos hrange
    · exact State.serveArrive_of_fault hservice (State.arriveFault_of_behind hstop hlt hbehind)
    · exact State.serveArrive_of_fault hservice (State.arriveFault_of_limit hstop hlimit)
    · exact State.servePass_of_fault hservice (if_pos hkind)
    · refine State.servePass_of_fault hservice ?_
      rw [State.passFault, if_neg (not_not.mpr hkind), if_pos hterminus]
      rfl
    · have hlimit : s.roundLimit 1 = true := decide_eq_true (Nat.lt_succ_of_le hround)
      refine State.servePass_of_fault hservice ?_
      rw [State.passFault, if_neg (not_not.mpr hkind), if_neg hterminus, Memory.boundaryCount_singleton,
        if_pos hboundary, if_pos hlimit]
      rfl
    · refine State.serveSet_of_fault hservice ?_
      rw [State.setTarget, hstop]
      rfl
    · refine State.serveSet_of_fault hservice ?_
      rw [State.setTarget, hstop, State.journeyKind, if_neg h₁, if_neg h₂]
      exact if_neg (Nat.not_le.mpr hlt)
    · refine State.serveSet_of_fault hservice ?_
      rw [State.setTarget, hstop, State.journeyKind_eq (kind := .inSection) hsection (by decide)]
      dsimp only
      rw [if_neg (Nat.not_le.mpr hlt), if_pos ⟨rfl, rfl⟩]
      rfl
  have hanswer : (s.take .journey n).journeyAnswer (outcome, detail) 0 = [outcome, detail, byteOf s.table.service.code,
      byteOf (if s.journey.kind = .nowhere then 0xFF else s.journey.stop), byteOf s.journey.kind.code] ++
      le16 s.journey.round ++ [0#8] := by
    rw [State.journeyAnswer, State.take_table, State.take_journey]
    rfl
  rw [exec_journey hhead hevent hc, hserve, State.refuseJourney, State.answerJourney, hanswer]
  obtain ⟨m, N, h⟩ := s.answered_frame .journey (n := n) (by rw [hk]; decide) ([outcome, detail,
    byteOf s.table.service.code, byteOf (if s.journey.kind = .nowhere then 0xFF else s.journey.stop),
    byteOf s.journey.kind.code] ++ le16 s.journey.round ++ [0#8])
  refine ⟨_, rfl, ?_, (State.answered_answers hs .journey n _).event, (s.answered_sameBytes .journey n _).event⟩
  rw [h]
  rfl

end Sys2Proof.Machine
end

section
/-!
The deny list unit (chapter 6): what a lookup hits (R103), which lookup completes (R105), and the sweep of a DAY_CHANGE,
step by step and as a whole (R118 to R120).
-/

namespace Sys2Proof.Machine

/-! ### What a lookup hits (R103) -/

theorem DenyEntry.denies_iff (e : DenyEntry) (day : Nat) :
    e.denies day = true ↔ e.expiry = 0xFFFF ∨ day ≤ e.expiry :=
  decide_eq_true_iff

theorem denyHit_isSome_iff {l : List DenyEntry} (h : DenySorted l) (id day : Nat) :
    (denyHit l id day).isSome ↔ ∃ e ∈ l, e.mediaId = id ∧ (e.expiry = 0xFFFF ∨ day ≤ e.expiry) := by
  simp only [denyHit, Option.isSome_iff_exists, Option.filter_eq_some_iff, denyEntry_eq_some h, DenyEntry.denies_iff,
    and_assoc]

theorem denyEntry_of_denyHit {l : List DenyEntry} {id day : Nat} {e : DenyEntry} (h : denyHit l id day = some e) :
    denyEntry l id = some e :=
  (Option.filter_eq_some_iff.mp h).1

/-! ### Which lookup completes (R105) -/

theorem exec_engineLookup {s : State} {media day : Nat} (hserves : s.deny.serves .verdictEngine = true)
    (hlookup : s.deny.engineLookup = some (media, day)) :
    exec (.denyLookup .verdictEngine) s = (s.serveEngineLookup media day).event := by
  show execDenyLookup .verdictEngine s = _
  unfold execDenyLookup
  rw [hserves, hlookup]

theorem exec_denyLookup_of_other {s : State} {who : LookupRequester} (h : s.deny.serves who = false) :
    exec (.denyLookup who) s = .next s := by
  show execDenyLookup who s = _
  unfold execDenyLookup
  rw [h]
  rfl

theorem DenyUnit.serves_of_other {u : DenyUnit} {who other : LookupRequester}
    (h : u.choose.serving = some (.lookup (some other))) (hne : other ≠ who) : u.serves who = false := by
  simpa [DenyUnit.serves, h] using hne

/-- The unit after a lookup of a requester has completed. -/
theorem lookup_completes {s t u : State} {d : DenyUnit} (hdeny : u.deny = d.complete) (ht : t = u.driveNote.settled)
    (hwaiting : d.dayWaiting = s.deny.dayWaiting) (hsweep : d.sweep = s.deny.sweep) (hlist : d.list = s.deny.list) :
    t.deny = DenyUnit.advance { d with sweep := t.deny.sweep, dayWaiting := none, serving := none } ∧
      (s.deny.dayWaiting = none → t.deny.sweep = s.deny.sweep) ∧
      ∀ day, s.deny.dayWaiting = some day →
        t.deny.sweep = s.deny.list.head?.map fun e => { day := day, position := e.mediaId } := by
  have hdeny : t.deny = d.complete.advance := by
    rw [ht, ← hdeny]
    rfl
  rw [hdeny, ← hwaiting, ← hsweep, ← hlist]
  exact ⟨d.advance_complete, DenyUnit.advance_complete_sweep_of_none, fun _ => DenyUnit.advance_complete_sweep_of_some⟩

/-- Settles O29: what a lookup hits, that the other requester's waits, and what the one in service leaves. -/
theorem lookupHitsUnexpiredEntry : Obligations.LookupHitsUnexpiredEntry := by
  unfold Obligations.LookupHitsUnexpiredEntry
  refine ⟨fun l id day h => ⟨denyHit_isSome_iff h id day, fun e => denyEntry_of_denyHit, fun e => denyEntry_eq_some h⟩,
    fun s who other hserving hne => exec_denyLookup_of_other (DenyUnit.serves_of_other hserving hne),
    fun s who hserving hwaits => ?_⟩
  have hserves := DenyUnit.serves_of_choose hserving
  rcases hwaits with ⟨rfl, hlookup⟩ | ⟨rfl, hlookup⟩
  · obtain ⟨⟨media, day⟩, hlookup⟩ := Option.isSome_iff_exists.mp hlookup
    obtain ⟨f, l, run, h⟩ := s.serveEngineLookup_frame media day
    rw [exec_engineLookup hserves hlookup]
    exact ⟨_, rfl, lookup_completes (d := { s.deny with engineLookup := none }) (by rw [h]) rfl rfl rfl rfl⟩
  · obtain ⟨media, hlookup⟩ := Option.isSome_iff_exists.mp hlookup
    obtain ⟨m, held, N, h⟩ := s.serveProbe_frame media
    rw [exec_probeLookup hserves hlookup]
    exact ⟨_, rfl, lookup_completes (d := { s.deny with probeLookup := none }) (by rw [h]) rfl rfl rfl rfl⟩

/-! ### One sweep step (R119) -/

section
variable {before after : List DenyEntry} {e : DenyEntry} (h : DenySorted (before ++ e :: after))
include h

theorem DenySorted.lt_of_mem_before {x : DenyEntry} (hx : x ∈ before) : x.mediaId < e.mediaId := by
  rw [DenySorted, List.map_append, List.pairwise_append] at h
  exact h.2.2 _ (List.mem_map_of_mem hx) _ (List.mem_map_of_mem List.mem_cons_self)

theorem DenySorted.lt_of_mem_after {x : DenyEntry} (hx : x ∈ after) : e.mediaId < x.mediaId := by
  rw [DenySorted, List.map_append, List.pairwise_append] at h
  exact (denySorted_cons.mp h.2.1).1 x hx

/-- The sweep position finds its entry. -/
theorem find?_sweepPosition :
    ((before ++ e :: after).find? fun x => decide (e.mediaId ≤ x.mediaId)) = some e := by
  have hbefore : (before.find? fun x => decide (e.mediaId ≤ x.mediaId)) = none :=
    List.find?_eq_none.mpr fun x hx => by simpa using DenySorted.lt_of_mem_before h hx
  rw [List.find?_append, hbefore, Option.none_or, List.find?_cons_of_pos (by simp)]

/-- The sweep moves on to the next entry by media ID. -/
theorem find?_nextPosition :
    ((before ++ e :: after).find? fun x => decide (e.mediaId < x.mediaId)) = after.head? := by
  have hbefore : (before.find? fun x => decide (e.mediaId < x.mediaId)) = none :=
    List.find?_eq_none.mpr fun x hx => by simpa using (DenySorted.lt_of_mem_before h hx).le
  rw [List.find?_append, hbefore, Option.none_or, List.find?_cons_of_neg (by simp)]
  cases after with
  | nil => rfl
  | cons x after =>
    exact List.find?_cons_of_pos (decide_eq_true (DenySorted.lt_of_mem_after h List.mem_cons_self))

theorem denyRemove_split : denyRemove (before ++ e :: after) e.mediaId = before ++ after := by
  rw [denyRemove, List.filter_append, List.filter_cons_of_neg (by simp)]
  congr 1 <;> refine List.filter_eq_self.mpr fun x hx => ?_
  · simpa using (DenySorted.lt_of_mem_before h hx).ne
  · simpa using (DenySorted.lt_of_mem_after h hx).ne'

/-- One sweep step at an entry of the list. -/
theorem DenyUnit.sweepOnce_eq {u : DenyUnit} {w : Sweep} (hlist : u.list = before ++ e :: after)
    (hsweep : u.sweep = some w) (hposition : e.mediaId = w.position) : u.sweepOnce = { u with
      list := if e.expiry ≠ 0xFFFF ∧ e.expiry < w.day then before ++ after else u.list
      sweep := after.head?.map fun x => { day := w.day, position := x.mediaId } } := by
  have hfind : (u.list.find? fun x => decide (w.position ≤ x.mediaId)) = some e := by
    rw [hlist, ← hposition, find?_sweepPosition h]
  rw [DenyUnit.sweepOnce, hsweep]
  simp only [hfind]
  rw [hlist, find?_nextPosition h, denyRemove_split h]
  simp only [DenyEntry.sweptAt, decide_eq_true_eq, Config.noneWord]

end

theorem exec_sweepStep {s : State} (h : s.deny.choose.serving = some .sweepStep) :
    exec .sweepStep s = s.applySweepStep.event :=
  if_pos h

theorem State.applySweepStep_sameBytes (s : State) : s.sameBytesBut s.applySweepStep inMirror := by
  have hmirror := State.rewriteMirror_sameBytesBut { s with deny := s.deny.sweepOnce }
  unfold State.applySweepStep
  generalize State.rewriteMirror { s with deny := s.deny.sweepOnce } = u at hmirror ⊢
  exact hmirror

/-- A unit between two sweep steps waits, and a DAY_CHANGE restarts its sweep (R120). -/
theorem DenyUnit.between_steps {u : DenyUnit} (hfree : u.serving = none) (hengine : u.engineLookup = none)
    (hprobe : u.probeLookup = none) (hsweep : u.sweep.isSome) : u.advance.serving = none ∧
      ∀ day, (u.advance.dayChange day).sweep = u.advance.list.head?.map fun x => { day := day, position := x.mediaId } := by
  have hnext : u.next = some .sweepStep := by
    rw [DenyUnit.next_spec, hengine, hprobe, hsweep]
    rfl
  have hserving : u.advance.serving = none := by rw [DenyUnit.advance, if_pos hnext, hfree]
  exact ⟨hserving, fun day => by rw [DenyUnit.dayChange_spec, hserving]; rfl⟩

/-- Settles O37: the step at an entry of the sorted list, and the completion that follows it. -/
theorem sweepStepJudgesOneEntry : Obligations.SweepStepJudgesOneEntry := by
  unfold Obligations.SweepStepJudgesOneEntry
  rintro s w e before after ⟨-, hsorted⟩ hserving hsweep hlist hposition
  have hsorted' : DenySorted (before ++ e :: after) := hlist ▸ hsorted
  have hstep := DenyUnit.sweepOnce_eq hsorted' hlist hsweep hposition
  obtain ⟨m, h⟩ := s.applySweepStep_frame
  have hbytes := s.applySweepStep_sameBytes
  rw [exec_sweepStep hserving]
  generalize s.applySweepStep = v at h hbytes ⊢
  have hdeny : v.driveNote.settled.deny = s.deny.sweepOnce.complete.advance := by rw [h]; rfl
  refine ⟨_, rfl, ?_, fun hday => ?_, fun day hday => ?_, fun hengine hprobe hsome => ?_, hbytes.event⟩
  · have hunit : v.driveNote.settled.deny = DenyUnit.advance { s.deny with
        list := if e.expiry ≠ 0xFFFF ∧ e.expiry < w.day then before ++ after else s.deny.list
        sweep := v.driveNote.settled.deny.sweep, dayWaiting := none, serving := none } := by
      have hcomplete := s.deny.sweepOnce.advance_complete
      rwa [← hdeny, hstep] at hcomplete
    have hnote : v.driveNote.settled.notice.noteN = !v.driveNote.settled.anyPending :=
      v.event_noteAgrees
    rw [← hunit, ← hnote, h]
    rfl
  · rw [hdeny, DenyUnit.advance_complete_sweep_of_none (by rw [hstep]; exact hday), hstep]
  · rw [hdeny, DenyUnit.advance_complete_sweep_of_some (day := day) (by rw [hstep]; exact hday), DenyUnit.advance_list,
      DenyUnit.complete_spec]
  · rw [hdeny] at hsome ⊢
    rw [DenyUnit.advance_sweep] at hsome
    have hfree : s.deny.sweepOnce.complete.serving = none := by rw [DenyUnit.complete_spec]
    have hengine' : s.deny.sweepOnce.complete.engineLookup = none := by rw [DenyUnit.complete_spec, hstep]; exact hengine
    have hprobe' : s.deny.sweepOnce.complete.probeLookup = none := by rw [DenyUnit.complete_spec, hstep]; exact hprobe
    exact DenyUnit.between_steps hfree hengine' hprobe' hsome

/-! ### The whole sweep (R118 to R120) -/

/-- A sweep of the entries that are left ends in one step for each, keeps those not expired before its day, and is in
progress until then. -/
theorem DenyUnit.sweepOnce_iterate (day : Nat) (rest : List DenyEntry) {u : DenyUnit} {kept : List DenyEntry}
    (hlist : u.list = kept ++ rest) (hsorted : DenySorted u.list)
    (hsweep : u.sweep = rest.head?.map fun e => { day := day, position := e.mediaId }) :
    (DenyUnit.sweepOnce^[rest.length] u).sweep = none ∧
    (DenyUnit.sweepOnce^[rest.length] u).list =
      kept ++ rest.filter (fun e => decide (e.expiry = 0xFFFF ∨ day ≤ e.expiry)) ∧
    ∀ k, k < rest.length → (DenyUnit.sweepOnce^[k] u).sweep.isSome := by
  induction rest generalizing u kept with
  | nil => exact ⟨hsweep, by rw [List.filter_nil]; exact hlist, fun k hk => absurd hk (Nat.not_lt_zero k)⟩
  | cons e rest ih =>
    have hsorted' : DenySorted (kept ++ e :: rest) := hlist ▸ hsorted
    have hstep := DenyUnit.sweepOnce_eq (w := { day := day, position := e.mediaId }) hsorted' hlist hsweep rfl
    have hsub : u.sweepOnce.list.Sublist u.list := u.sweepOnce_sublist
    have hnext : u.sweepOnce.list =
        (kept ++ [e].filter fun e => decide (e.expiry = 0xFFFF ∨ day ≤ e.expiry)) ++ rest := by
      rw [hstep, hlist]
      dsimp only
      by_cases hkeep : e.expiry = 0xFFFF ∨ day ≤ e.expiry
      · rw [if_neg (by omega), List.filter_singleton, decide_eq_true hkeep]
        simp
      · rw [if_pos (by omega), List.filter_singleton, decide_eq_false hkeep]
        simp
    obtain ⟨hdone, hfinal, hbusy⟩ := ih hnext (hsorted.sublist (hsub.map _)) (by rw [hstep])
    rw [List.length_cons, Function.iterate_succ_apply]
    refine ⟨hdone, ?_, fun k hk => ?_⟩
    · rw [hfinal, List.append_assoc, ← List.filter_append, List.singleton_append]
    · cases k with
      | zero =>
        rw [Function.iterate_zero_apply, hsweep]
        rfl
      | succ k =>
        rw [Function.iterate_succ_apply]
        exact hbusy k (Nat.lt_of_succ_lt_succ hk)

/-! ### Order of service (R105, R106) -/

theorem DenyUnit.choose_eq (u : DenyUnit) : u.choose = { u with
    serving :=
    if u.serving.isSome then u.serving
    else if u.engineLookup.isSome && u.probeLookup.isSome then some (.lookup none)
    else if u.engineLookup.isSome then some (.lookup (some .verdictEngine))
    else if u.probeLookup.isSome then some (.lookup (some .tableUnit))
    else if u.sweep.isSome then some .sweepStep
    else if u.edit.isSome then some .edit
    else none } := by
  rw [DenyUnit.choose, DenyUnit.next_spec]
  cases u.serving <;> rfl

/-- A unit serves a sweep step next exactly when no lookup waits and a sweep is in progress. -/
theorem DenyUnit.next_eq_sweepStep_iff (u : DenyUnit) :
    u.next = some .sweepStep ↔ u.engineLookup = none ∧ u.probeLookup = none ∧ u.sweep.isSome := by
  rw [DenyUnit.next_spec]
  cases u.engineLookup <;> cases u.probeLookup <;> cases u.sweep <;> cases u.edit <;> simp

theorem DenyUnit.advance_eq (u : DenyUnit) : u.advance =
    if u.serving = none ∧ u.engineLookup = none ∧ u.probeLookup = none ∧ u.sweep.isSome then u else u.choose := by
  by_cases hserving : u.serving = none
  · simp only [DenyUnit.advance, DenyUnit.next_eq_sweepStep_iff, hserving, true_and]
  · have hsome : u.serving.isSome = true := Option.isSome_iff_ne_none.mpr hserving
    rw [DenyUnit.advance_of_serving hsome, DenyUnit.choose_of_serving hsome, ite_self]

/-- A DAY_CHANGE at a free unit. -/
theorem DenyUnit.dayChange_of_free {u : DenyUnit} (h : u.serving = none) (day : Nat) : u.dayChange day = { u with
    sweep := u.list.head?.map fun e => { day := day, position := e.mediaId } } := by
  rw [DenyUnit.dayChange_spec, h]
  rfl

/-- A DAY_CHANGE at a unit that serves an operation waits for it, and begins its sweep when it completes. -/
theorem DenyUnit.dayChange_of_serving {u : DenyUnit} (h : u.serving ≠ none) (day : Nat) :
    u.dayChange day = { u with dayWaiting := some day } ∧
      (u.dayChange day).complete = { u with
        sweep := u.list.head?.map fun e => { day := day, position := e.mediaId }
        dayWaiting := none, serving := none } := by
  have hwaits : u.dayChange day = { u with dayWaiting := some day } := by
    rw [DenyUnit.dayChange_spec, Option.isSome_iff_ne_none.mpr h]
    rfl
  exact ⟨hwaits, by rw [hwaits, DenyUnit.complete_spec]⟩

/-- A completion with no DAY_CHANGE waiting frees the unit, and a DAY_CHANGE that follows goes before a waiting edit. -/
theorem DenyUnit.complete_of_no_day {u : DenyUnit} (h : u.dayWaiting = none) (day : Nat) :
    u.complete = { u with serving := none } ∧
      u.complete.dayChange day = { u with
        sweep := u.list.head?.map fun e => { day := day, position := e.mediaId }, serving := none } ∧
      (u.list ≠ [] → (u.complete.dayChange day).choose.serving ≠ some .edit) := by
  have hcomplete : u.complete = { u with serving := none } := by
    rw [DenyUnit.complete_spec, h]
  have hday := DenyUnit.dayChange_of_free (u := { u with serving := none }) rfl day
  refine ⟨hcomplete, by rw [hcomplete, hday], fun hlist hedit => ?_⟩
  rw [hcomplete, hday, DenyUnit.choose_edit_iff] at hedit
  rcases hedit with hserving | ⟨-, -, -, hsweep, -⟩
  · cases hserving
  · exact hlist (List.head?_eq_none_iff.mp (Option.map_eq_none_iff.mp hsweep))

/-- No edit completes while a sweep is in progress and the edit is not in service. -/
theorem exec_edit_of_sweep {s : State} {c : Instr} (hc : c ∈ [Instr.add, .delete, .clear]) (hsweep : s.deny.sweep.isSome)
    (hserving : s.deny.serving ≠ some .edit) : exec c s = .next s := by
  have hnone : s.servedEdit = none := by
    refine if_neg fun hedit => ?_
    rcases (DenyUnit.choose_edit_iff s.deny).mp hedit with h | ⟨-, -, -, h, -⟩
    · exact hserving h
    · rw [h] at hsweep
      cases hsweep
  simp only [List.mem_cons, List.not_mem_nil, or_false] at hc
  rcases hc with rfl | rfl | rfl
  · show execAdd s = _
    rw [execAdd, hnone]
    rfl
  · show execDelete s = _
    rw [execDelete, hnone]
    rfl
  · show execClear s = _
    rw [execClear, hnone]
    rfl

/-- Settles O38: the unit's choices, the two orders of an edit and a DAY_CHANGE, and the sweep of a whole list. -/
theorem dayChangeSweepsList : Obligations.DayChangeSweepsList := by
  unfold Obligations.DayChangeSweepsList
  refine ⟨fun u day => ⟨u.choose_eq, u.advance_eq, fun h => DenyUnit.dayChange_of_free h day, fun h => ?_⟩,
    fun s c hc hsweep hserving => exec_edit_of_sweep hc hsweep hserving, fun c s t h hreset hc => ?_,
    fun u day hsorted => DenyUnit.sweepOnce_iterate day u.list (u := u.beginSweep day) (kept := []) rfl hsorted rfl⟩
  · obtain ⟨hwaits, hcompletes⟩ := DenyUnit.dayChange_of_serving h day
    exact ⟨hwaits, hcompletes, fun hday => DenyUnit.complete_of_no_day hday day⟩
  · exact (unitsAfter_of_exec h hreset).imp_right fun hunits => hunits.2 hc

end Sys2Proof.Machine
end

section
/-!
The edits of a batch (R110 to R113): one lemma for the list that an edit leaves and the batch that goes on after it, which
ADD, DELETE and CLEAR share, and the ADD that finds the list full.
-/

namespace Sys2Proof.Machine

/-! ### The edit in service -/

theorem State.servedEdit_of_serving {s : State} {e : Edit} (hserving : s.deny.choose.serving = some .edit)
    (hedit : s.deny.edit = some e) : s.servedEdit = some e := by
  rw [State.servedEdit, if_pos hserving, hedit]

theorem exec_add {s : State} {media reason expiry : Nat} (h : s.servedEdit = some (.add media reason expiry)) :
    exec .add s = .next (s.applyAdd media reason expiry).chooseCheck.beginLookup.driveNote := by
  show execAdd s = _
  rw [execAdd, h]
  rfl

theorem exec_delete {s : State} {media : Nat} (h : s.servedEdit = some (.delete media)) :
    exec .delete s = .next (s.applyDelete media).chooseCheck.beginLookup.driveNote := by
  show execDelete s = _
  rw [execDelete, h]
  rfl

theorem exec_clear {s : State} (h : s.servedEdit = some .clear) :
    exec .clear s = .next s.applyClear.chooseCheck.beginLookup.driveNote := by
  show execClear s = _
  rw [execClear, h]
  rfl

theorem State.applyAdd_of_room {s : State} {media : Nat} (h : denyFullFor s.deny.list media = false)
    (reason expiry : Nat) : s.applyAdd media reason expiry =
      ((s.setDenyList (denyInsert s.deny.list { mediaId := media, reason := reason, expiry := expiry })).afterEdit
        true).completeDeny :=
  if_neg (by rw [h]; decide)

theorem State.applyAdd_of_full {s : State} {media : Nat} (h : denyFullFor s.deny.list media = true)
    (reason expiry : Nat) : s.applyAdd media reason expiry = ((s.raise .denyFull).afterEdit false).completeDeny :=
  if_pos h

/-! ### The batch after an edit (R110) -/

/-- The lookup that a free unit begins when an edit has completed (R105, R106). -/
abbrev DenyUnit.lookupNext (u : DenyUnit) : Option DenyOp :=
  if u.engineLookup.isSome && u.probeLookup.isSome then some (.lookup none)
  else if u.engineLookup.isSome then some (.lookup (some .verdictEngine))
  else if u.probeLookup.isSome then some (.lookup (some .tableUnit))
  else none

/-- The unit when an edit has completed and a waiting lookup has begun. -/
theorem DenyUnit.beginLookup_complete (u : DenyUnit) : u.complete.beginLookup = { u with
    sweep := u.complete.sweep, dayWaiting := none, serving := u.lookupNext } := by
  rw [DenyUnit.beginLookup_spec, DenyUnit.complete_spec]
  rfl

theorem DenyUnit.complete_sweep_of_none {u : DenyUnit} (h : u.dayWaiting = none) : u.complete.sweep = u.sweep := by
  rw [DenyUnit.complete_spec, h]

theorem DenyUnit.complete_sweep_of_some {u : DenyUnit} {day : Nat} (h : u.dayWaiting = some day) :
    u.complete.sweep = u.list.head?.map fun e => { day := day, position := e.mediaId } := by
  rw [DenyUnit.complete_spec, h]

theorem Memory.batchRecord_congr {m m' : Memory} {offset : Nat} (h : ∀ a, offset ≤ a → m'.read a = m.read a) (i : Nat) :
    m'.batchRecord offset i = m.batchRecord offset i := by
  have hlist : m'.readList (offset + 6 + 12 * i) 7 = m.readList (offset + 6 + 12 * i) 7 :=
    List.map_congr_left fun k _ => h _ (by omega)
  simp only [Memory.batchRecord, Memory.read16_eq, hlist, h (offset + 2 + 12 * i) (by omega),
    h (offset + 3 + 12 * i) (by omega), h (offset + 4 + 12 * i) (by omega), h (offset + 4 + 12 * i + 1) (by omega)]

theorem State.setDenyList_frame (s : State) (l : List DenyEntry) :
    ∃ m, s.setDenyList l = { s with mem := m, deny := { s.deny with list := l } } :=
  ⟨_, State.rewriteMirror_eq { s with deny := { s.deny with list := l } }⟩

theorem State.setDenyList_sameBytes (s : State) (l : List DenyEntry) : s.sameBytesBut (s.setDenyList l) inMirror :=
  State.rewriteMirror_sameBytesBut { s with deny := { s.deny with list := l } }

theorem State.setDenyList_memoryCanonical {s : State} (hs : s.memoryCanonical) (l : List DenyEntry) :
    (s.setDenyList l).memoryCanonical :=
  State.rewriteMirror_memoryCanonical (s := { s with deny := { s.deny with list := l } }) hs

/-- The deny list unit without the edit, which is over. -/
abbrev State.editDone (s : State) : State :=
  { s with deny := { s.deny with edit := none } }

theorem State.afterEdit_applied {s : State} {n : Fin 32} {offset count i : Nat}
    (hheld : s.table.held = some (n, .denyBatch offset count i true)) :
    s.afterEdit true = s.editDone.continueBatch n offset count (i + 1) := by
  rw [State.afterEdit]
  dsimp only
  rw [hheld]
  rfl

theorem State.afterEdit_refused {s : State} {n : Fin 32} {offset count i : Nat}
    (hheld : s.table.held = some (n, .denyBatch offset count i true)) :
    s.afterEdit false = s.editDone.finishBatch n (Outcome.tableFull, 0#8) i i := by
  rw [State.afterEdit]
  dsimp only
  rw [hheld]
  rfl

/-- The state when an edit has completed, the free units having begun what waited but the batch's next edit. -/
abbrev State.edited (s : State) : State :=
  s.completeDeny.chooseCheck.beginLookup.driveNote

/-- An edit that leaves the list `l`: the list, the sweep and the lookup in service, and the batch goes on. -/
theorem listEdited_spec {s : State} {n : Fin 32} {offset count i : Nat} {lookup : Option DenyOp}
    (hs : s.memoryCanonical) (hheld : s.table.held = some (n, .denyBatch offset count i true))
    (hk : s.kindOf n = some .denyBatch) (hlookup : lookup = s.deny.lookupNext) (l : List DenyEntry) :
    ∃ t, ((s.setDenyList l).afterEdit true).edited = t ∧
      t = { s.settled with
        mem := t.mem
        table := { s.table with held := t.table.held }
        deny := { s.deny with
          list := t.deny.list, sweep := t.deny.sweep, dayWaiting := none, edit := t.deny.edit
          serving := t.deny.serving }
        notice := s.notice.withCounts t.notice } ∧
      t.deny.serving = lookup ∧ t.deny.list = l ∧
      (s.deny.dayWaiting = none → t.deny.sweep = s.deny.sweep) ∧
      (∀ day, s.deny.dayWaiting = some day →
        t.deny.sweep = t.deny.list.head?.map fun e => { day := day, position := e.mediaId }) ∧
      (count ≤ i + 1 → t.table.held = none ∧ t.deny.edit = none ∧
        t.answers n ([0x01#8, 0#8] ++ le16 (i + 1) ++ [0xFF#8, 0xFF#8] ++ le16 t.deny.list.length)) ∧
      (∀ e, i + 1 < count → (s.mem.batchRecord offset (i + 1)).judge = .ok e → Config.bulkBase ≤ offset →
        t.deny.edit = some e ∧ t.table.held = some (n, .denyBatch offset count (i + 1) true)) ∧
      (∀ d, i + 1 < count → (s.mem.batchRecord offset (i + 1)).judge = .error d → Config.bulkBase ≤ offset →
        t.table.held = none ∧ t.deny.edit = none ∧
        t.answers n ([0x41#8, d] ++ le16 (i + 1) ++ le16 (i + 1) ++ le16 t.deny.list.length)) ∧
      s.sameBytesBut t (fun a => a = cellBase n ∨ inAnswer n a ∨ inMirror a) := by
  obtain ⟨m, hset⟩ := s.setDenyList_frame l
  have hbytes := s.setDenyList_sameBytes l
  have hcanonical := State.setDenyList_memoryCanonical hs l
  generalize s.setDenyList l = u at hset hbytes hcanonical ⊢
  have hrecord (h : Config.bulkBase ≤ offset) : u.mem.batchRecord offset (i + 1) = s.mem.batchRecord offset (i + 1) := by
    refine Memory.batchRecord_congr (fun a ha => hbytes a ?_) _
    simp only [inMirror, Config.bulkBase, Config.mirrorBase, Config.scratchBase] at *
    omega
  obtain ⟨m', held, edit, N, h, hanswered, hdone, hok, herror⟩ := State.continueBatch_eq (s := u.editDone)
    (n := n) hcanonical (by rw [← hk, hset]; rfl) offset count (i + 1)
  have hdeny : u.editDone.deny = { s.deny with list := l, edit := none } := by rw [hset]
  rw [State.afterEdit_applied (s := u) (by rw [hset]; exact hheld)]
  generalize u.editDone.continueBatch n offset count (i + 1) = v at h hanswered hdone herror ⊢
  have hafter : v.edited.deny = { s.deny with
      list := l, sweep := (DenyUnit.complete { s.deny with list := l, edit := edit }).sweep, dayWaiting := none
      edit := edit, serving := s.deny.lookupNext } := by
    rw [← DenyUnit.beginLookup_complete { s.deny with list := l, edit := edit }, h, hset]
    rfl
  have hheldAfter : v.edited.table.held = held := by rw [h]; rfl
  have heditAfter : v.edited.deny.edit = edit := by rw [hafter]
  have hlistAfter : v.edited.deny.list = l := by rw [hafter]
  have hcount : u.editDone.deny.list.length = l.length := by rw [hdeny]
  refine ⟨_, rfl, ?_, by rw [hafter, hlookup], hlistAfter, fun hday => ?_, fun day hday => ?_, fun hle => ?_,
    fun e hlt hjudge hbulk => ?_, fun d hlt hjudge hbulk => ?_, ?_⟩
  · have hunit : v.edited.deny = { s.deny with
        list := v.edited.deny.list, sweep := v.edited.deny.sweep, dayWaiting := none, edit := v.edited.deny.edit
        serving := v.edited.deny.serving } := by rw [hafter]
    rw [← hunit, h, hset]
    rfl
  · rw [hafter]
    exact DenyUnit.complete_sweep_of_none hday
  · rw [hlistAfter, hafter]
    exact DenyUnit.complete_sweep_of_some hday
  · obtain ⟨hh, he, hanswer⟩ := hdone hle
    rw [hcount] at hanswer
    exact ⟨hheldAfter.trans hh, heditAfter.trans (he.trans (by rw [hdeny])), by rw [hlistAfter]; exact hanswer⟩
  · obtain ⟨hh, he, -⟩ := hok e hlt (by rw [← hjudge]; exact congrArg _ (hrecord hbulk))
    exact ⟨heditAfter.trans he, hheldAfter.trans hh⟩
  · obtain ⟨hh, he, hanswer⟩ := herror d hlt (by rw [← hjudge]; exact congrArg _ (hrecord hbulk))
    rw [hcount] at hanswer
    exact ⟨hheldAfter.trans hh, heditAfter.trans (he.trans (by rw [hdeny])), by rw [hlistAfter]; exact hanswer⟩
  · have hall : s.sameBytesBut v (fun a => a = cellBase n ∨ inAnswer n a ∨ inMirror a) :=
      (hbytes.mono fun _ h => .inr (.inr h)).trans
        (State.sameBytesBut.mono hanswered fun _ h => h.imp_right .inl)
    exact hall

/-- The edit in service, the list it leaves and that list's form. -/
theorem exec_edit {s : State} {c : Instr} {entry : Nat → Option DenyEntry} (hsound : s.denyListSound)
    (hserving : s.deny.choose.serving = some .edit)
    (hc : (∃ media reason expiry, c = .add ∧ s.deny.edit = some (.add media reason expiry) ∧
        ((denyEntry s.deny.list media).isSome ∨ s.deny.list.length < 4096) ∧
        entry = fun k => if k = media then some { mediaId := media, reason := reason, expiry := expiry }
          else denyEntry s.deny.list k) ∨
      (∃ media, c = .delete ∧ s.deny.edit = some (.delete media) ∧
        entry = fun k => if k = media then none else denyEntry s.deny.list k) ∨
      (c = .clear ∧ s.deny.edit = some .clear ∧ entry = fun _ => none)) :
    ∃ l, exec c s = .next ((s.setDenyList l).afterEdit true).edited ∧ (∀ k, denyEntry l k = entry k) ∧
      l.length ≤ Config.denyListSize ∧ DenySorted l := by
  obtain ⟨hlength, hsorted⟩ := hsound
  rcases hc with ⟨media, reason, expiry, rfl, hedit, hroom, rfl⟩ | ⟨media, rfl, hedit, rfl⟩ | ⟨rfl, hedit, rfl⟩
  · have hfull : denyFullFor s.deny.list media = false := by
      rcases hroom with h | h
      · rw [denyFullFor, ← Option.not_isSome, h]
        rfl
      · rw [denyFullFor, decide_eq_false (Nat.not_le.mpr h), Bool.and_false]
    let e : DenyEntry := { mediaId := media, reason := reason, expiry := expiry }
    refine ⟨denyInsert s.deny.list e, ?_, denyEntry_denyInsert hsorted e, listSound_denyInsert e hlength hsorted hfull⟩
    rw [exec_add (State.servedEdit_of_serving hserving hedit), State.applyAdd_of_room hfull]
  · refine ⟨denyRemove s.deny.list media, ?_, fun k => denyEntry_denyRemove _ _ k,
      (denyRemove_length_le _ _).trans hlength, denyRemove_sorted hsorted media⟩
    rw [exec_delete (State.servedEdit_of_serving hserving hedit), State.applyDelete]
  · refine ⟨[], ?_, fun k => rfl, Nat.zero_le _, List.Pairwise.nil⟩
    rw [exec_clear (State.servedEdit_of_serving hserving hedit), State.applyClear]

/-- An ADD that finds the list full ends the batch with TABLE_FULL (R113). -/
theorem fullAdd_spec {s : State} {n : Fin 32} {offset count i media reason expiry : Nat} {lookup : Option DenyOp}
    (hs : s.memoryCanonical) (hserving : s.deny.choose.serving = some .edit)
    (hheld : s.table.held = some (n, .denyBatch offset count i true)) (hk : s.kindOf n = some .denyBatch)
    (hedit : s.deny.edit = some (.add media reason expiry)) (habsent : denyEntry s.deny.list media = none)
    (hfull : 4096 ≤ s.deny.list.length) (hlookup : lookup = s.deny.lookupNext) :
    ∃ t, exec .add s = .next t ∧
      t = { s.settled with
        mem := t.mem
        table := { s.table with held := none }
        deny := { s.deny with sweep := t.deny.sweep, dayWaiting := none, edit := none, serving := lookup }
        notice := { s.notice with flags := t.notice.flags }.withCounts t.notice } ∧
      t.flag .denyFull = true ∧ s.sameFlagsBut t [.denyFull] ∧
      t.answers n ([0x45#8, 0#8] ++ le16 i ++ le16 i ++ le16 s.deny.list.length) ∧
      s.sameBytesBut t (fun a => a = cellBase n ∨ inAnswer n a) := by
  have hfullFor : denyFullFor s.deny.list media = true := by
    rw [denyFullFor, habsent, decide_eq_true (show Config.denyListSize ≤ _ from hfull)]
    rfl
  obtain ⟨m, N, h, hbytes, hanswer⟩ := State.finishBatch_spec (s := (s.raise .denyFull).editDone) (n := n) hs hk
    (Outcome.tableFull, 0#8) i i
  rw [exec_add (State.servedEdit_of_serving hserving hedit), State.applyAdd_of_full hfullFor,
    State.afterEdit_refused (s := s.raise .denyFull) hheld]
  generalize (s.raise .denyFull).editDone.finishBatch n (Outcome.tableFull, 0#8) i i = v at h hbytes hanswer ⊢
  have hafter : v.edited.deny = { s.deny with
      sweep := (DenyUnit.complete { s.deny with edit := none }).sweep, dayWaiting := none
      edit := none, serving := s.deny.lookupNext } := by
    rw [← DenyUnit.beginLookup_complete { s.deny with edit := none }, h]
    rfl
  have hflag (f : EventFlag) : v.edited.flag f = (s.raise .denyFull).flag f :=
    State.flag_congr (by rw [h]; rfl) f
  refine ⟨_, rfl, ?_, ?_, fun f hf => (hflag f).trans (s.raise_sameFlagsBut .denyFull f hf), hanswer, hbytes⟩
  · have hunit : v.edited.deny = { s.deny with
        sweep := v.edited.deny.sweep, dayWaiting := none, edit := none, serving := lookup } := by rw [hafter, hlookup]
    rw [← hunit, h]
    rfl
  · rw [hflag, State.flag_raise]
    simp

/-! ### The records (R113, Table 12-9) -/

theorem BatchRecord.judge_add {r : BatchRecord} (hop : r.op = 1) (hlow : 1 ≤ r.reason) (hhigh : r.reason ≤ 15) :
    r.judge = .ok (.add r.mediaId r.reason r.expiry) := by
  rw [BatchRecord.judge, if_pos hop, if_pos ⟨hlow, hhigh⟩]

theorem BatchRecord.judge_reason {r : BatchRecord} (hop : r.op = 1) (hreason : r.reason = 0 ∨ 15 < r.reason) :
    r.judge = .error 0x05#8 := by
  rw [BatchRecord.judge, if_pos hop, if_neg (by omega)]

theorem BatchRecord.judge_delete {r : BatchRecord} (hop : r.op = 2) : r.judge = .ok (.delete r.mediaId) := by
  rw [BatchRecord.judge, if_neg (by omega), if_pos hop]

theorem BatchRecord.judge_clear {r : BatchRecord} (hop : r.op = 3) : r.judge = .ok .clear := by
  rw [BatchRecord.judge, if_neg (by omega), if_neg (by omega), if_pos hop]

theorem BatchRecord.judge_op {r : BatchRecord} (h₁ : r.op ≠ 1) (h₂ : r.op ≠ 2) (h₃ : r.op ≠ 3) :
    r.judge = .error 0x04#8 := by
  rw [BatchRecord.judge, if_neg h₁, if_neg h₂, if_neg h₃]

theorem Memory.batchRecord_fields {m : Memory} {b : Nat → Nat} {offset i base : Nat}
    (hb : ∀ a, b a = (m.read a).toNat) (hbase : base = offset + 2 + 12 * i) :
    m.batchRecord offset i = {
      op := b base, reason := b (base + 1), expiry := b (base + 2) + 256 * b (base + 3)
      mediaId := ((((((b (base + 4) * 256 + b (base + 5)) * 256 + b (base + 6)) * 256 + b (base + 7)) * 256 +
        b (base + 8)) * 256 + b (base + 9)) * 256 + b (base + 10)) } := by
  have hmedia : beValue (m.readList (offset + 6 + 12 * i) 7) =
      ((((((b (base + 4) * 256 + b (base + 5)) * 256 + b (base + 6)) * 256 + b (base + 7)) * 256 +
        b (base + 8)) * 256 + b (base + 9)) * 256 + b (base + 10)) := by
    rw [show offset + 6 + 12 * i = base + 4 by omega]
    simp only [beValue_eq_foldl, Memory.readList, List.range_succ, List.range_zero, List.map_cons, List.map_nil,
      List.nil_append, List.cons_append, List.foldl_cons, List.foldl_nil, hb, Nat.add_assoc, Nat.reduceAdd]
    omega
  rw [Memory.batchRecord, hmedia, Memory.read16_eq, show offset + 3 + 12 * i = base + 1 by omega,
    show offset + 4 + 12 * i = base + 2 by omega, ← hbase, hb base, hb (base + 1), hb (base + 2), hb (base + 3)]

/-- Settles O36: the edit's list and the batch after it, the full list, and the records read. -/
theorem editAppliesAndBatchGoesOn : Obligations.EditAppliesAndBatchGoesOn := by
  unfold Obligations.EditAppliesAndBatchGoesOn
  refine ⟨?_, ?_, fun r => ⟨BatchRecord.judge_add, BatchRecord.judge_reason, BatchRecord.judge_delete,
    BatchRecord.judge_clear, BatchRecord.judge_op⟩, fun m b offset i base hb hbase => Memory.batchRecord_fields hb hbase⟩
  · intro s n offset count i c entry lookup hs hsound hserving hheld hk hc hlookup
    obtain ⟨l, hexec, hentry, hlist⟩ := exec_edit hsound hserving hc
    obtain ⟨t, ht, heq, hnext, hl, hrest⟩ := listEdited_spec hs hheld hk hlookup l
    rw [ht] at hexec
    refine ⟨t, hexec, heq, hnext, fun k => by rw [hl, hentry], ?_, hrest⟩
    rw [State.denyListSound, hl]
    exact hlist
  · intro s n offset count i media reason expiry lookup hs hserving hheld hk hedit habsent hfull hlookup
    exact fullAdd_spec hs hserving hheld hk hedit habsent hfull hlookup

end Sys2Proof.Machine
end

section
/-!
The verdict engine at the take: what the request and the blocks make of an inspection (R15 to R20), and the fields of the
image that its mark is composed into (R94, R95).
-/

namespace Sys2Proof.Machine

/-! ### The take (R15 to R20) -/

theorem exec_inspect {s : State} {n : Fin 32} {rest : List (Fin 32)} (hqueue : s.intake.inspection = n :: rest)
    (hmay : s.mayInspect = true) : exec .inspect s = ((s.take .inspection n).beginInspection n).event := by
  show execInspect s = _
  unfold execInspect
  rw [hqueue]
  exact if_pos hmay

theorem TableUnit.closeWaits_eq_false {t : TableUnit} (h : ∀ m, t.held ≠ some (m, .serviceClose)) :
    t.closeWaits = false := by
  unfold TableUnit.closeWaits
  split
  next m hheld => exact absurd hheld (h m)
  next => rfl

theorem State.mayInspect_of_idle {s : State} (hidle : s.engine.flight = none) (hservice : s.table.service ≠ .checking)
    (hclose : ∀ m, s.table.held ≠ some (m, .serviceClose)) : s.mayInspect = true := by
  rw [State.mayInspect, hidle, decide_eq_true hservice, TableUnit.closeWaits_eq_false hclose]
  rfl

theorem Header.stopOutOfRange_eq (h : Header) (i : Nat) : stopOutOfRange h i = decide (i ≠ 0xFF ∧ h.stops ≤ i) := rfl

/-- The conditions of Table 2-1 in their order, over the ride that the request means. -/
theorem requestFault_eq (h : Header) (snap : Snapshot) (p : InspectParams) : requestFault h snap p =
    if p.presentation ≠ 0 ∧ p.presentation ≠ 1 then some 0x01#8
    else if p.boarding ≠ 0xFF ∧ h.stops ≤ p.boarding ∨ p.alighting ≠ 0xFF ∧ h.stops ≤ p.alighting then some 0x02#8
    else if p.override ≠ 0xFF ∧ 7 < p.override then some 0x03#8
    else if h.ahead (p.from snap) snap.stop then some 0x04#8
    else if h.ahead (p.from snap) (p.to h snap) then some 0x05#8
    else none := by
  refine if_congr (by omega) rfl (if_congr ?_ rfl rfl)
  simp only [Header.stopOutOfRange_eq, Bool.or_eq_true, decide_eq_true_eq]

theorem Flight.fresh_unformed (n : Fin 32) (snap : Snapshot) : (Flight.fresh n snap).unformed :=
  ⟨rfl, rfl, rfl, rfl, rfl, rfl, rfl, rfl, rfl, rfl⟩

/-- A take forms a flight of its cell and snapshot by the outcome of the request, and asks for a check of an image that
has a layout it reads. -/
theorem State.beginInspection_eq (s : State) (n : Fin 32) : ∃ f run,
    s.beginInspection n = { s with
      engine := { s.engine with flight := some f }
      check := { s.check with engineJob := run } } ∧
    f.cell = n ∧ f.unformed ∧ f.snap = s.snapshot ∧
    (s.table.service = .noService → f.stage = .judged .noService ∧ f.detail = 0#8 ∧ f.zones = [] ∧ f.sane = false ∧
      run = s.check.engineJob) ∧
    (∀ d, s.table.service ≠ .noService → requestFault s.mem.header s.snapshot (s.inspectParams n) = some d →
      f.stage = .judged .badRequest ∧ f.detail = d ∧ f.zones = [] ∧ f.sane = false ∧ run = s.check.engineJob) ∧
    (s.table.service ≠ .noService → requestFault s.mem.header s.snapshot (s.inspectParams n) = none →
      f.ride = some ((s.inspectParams n).from s.snapshot, (s.inspectParams n).to s.mem.header s.snapshot) ∧
      f.zones = s.mem.rideZones ((s.inspectParams n).from s.snapshot) ((s.inspectParams n).to s.mem.header s.snapshot) ∧
      f.sane = false ∧
      ((Ticket.ofImage (s.cellBody n)).layout ≠ 2 →
        f.stage = .judged .unreadable ∧ f.detail = 0x01#8 ∧ run = s.check.engineJob) ∧
      ((Ticket.ofImage (s.cellBody n)).layout = 2 →
        f.stage = .integrity ∧ f.detail = 0#8 ∧ run = some (s.cellBody n))) := by
  have unformed := Flight.fresh_unformed n s.snapshot
  by_cases hservice : s.table.service = .noService
  · have h : s.beginInspection n = s.setFlight ((Flight.fresh n s.snapshot).judge .noService) := if_pos hservice
    exact ⟨_, _, h, rfl, unformed, rfl, fun _ => ⟨rfl, rfl, rfl, rfl, rfl⟩, fun _ hne => absurd hservice hne,
      fun hne => absurd hservice hne⟩
  have hfresh : ¬ (Flight.fresh n s.snapshot).snap.service = .noService := hservice
  cases hfault : requestFault s.mem.header s.snapshot (s.inspectParams n) with
  | some d =>
    have h : s.beginInspection n = s.setFlight ((Flight.fresh n s.snapshot).judge .badRequest d) := by
      rw [State.beginInspection, if_neg hfresh, show (Flight.fresh n s.snapshot).snap = s.snapshot from rfl, hfault]
    refine ⟨_, _, h, rfl, unformed, rfl, fun heq => absurd heq hservice, ?_, nofun⟩
    rintro _ - ⟨⟩
    exact ⟨rfl, rfl, rfl, rfl, rfl⟩
  | none =>
    by_cases hlayout : (Ticket.ofImage (s.cellBody n)).layout = 2
    · have h : s.beginInspection n = (s.setFlight ((Flight.fresh n s.snapshot).withRide s.mem
          ((s.inspectParams n).from s.snapshot) ((s.inspectParams n).to s.mem.header s.snapshot))).askEngineJob
            (s.cellBody n) := by
        rw [State.beginInspection, if_neg hfresh, show (Flight.fresh n s.snapshot).snap = s.snapshot from rfl, hfault]
        exact if_neg (not_not.mpr hlayout)
      exact ⟨_, _, h, rfl, unformed, rfl, fun heq => absurd heq hservice, nofun, fun _ _ =>
        ⟨rfl, rfl, rfl, fun hne => absurd hlayout hne, fun _ => ⟨rfl, rfl, rfl⟩⟩⟩
    · have h : s.beginInspection n = s.setFlight (((Flight.fresh n s.snapshot).withRide s.mem
          ((s.inspectParams n).from s.snapshot) ((s.inspectParams n).to s.mem.header s.snapshot)).judge
            .unreadable 0x01#8) := by
        rw [State.beginInspection, if_neg hfresh, show (Flight.fresh n s.snapshot).snap = s.snapshot from rfl, hfault]
        exact if_pos hlayout
      exact ⟨_, _, h, rfl, unformed, rfl, fun heq => absurd heq hservice, nofun, fun _ _ =>
        ⟨rfl, rfl, rfl, fun _ => ⟨rfl, rfl, rfl⟩, fun heq => absurd heq hlayout⟩⟩

/-! A take changes nothing that the inspection it begins reads. -/

theorem State.take_cellByte (s : State) (q : QueueId) (n : Fin 32) {i : Nat} (hi : 0 < i) :
    (s.take q n).cellByte n i = s.cellByte n i :=
  s.take_sameBytes q n _ (by omega)

theorem State.take_inspectParams (s : State) (q : QueueId) (n : Fin 32) :
    (s.take q n).inspectParams n = s.inspectParams n := by
  simp only [State.inspectParams, s.take_cellByte q n (show 0 < 4 by decide), s.take_cellByte q n (show 0 < 5 by decide),
    s.take_cellByte q n (show 0 < 6 by decide), s.take_cellByte q n (show 0 < 7 by decide)]

theorem State.take_cellBody (s : State) (q : QueueId) (n : Fin 32) : (s.take q n).cellBody n = s.cellBody n :=
  Memory.readList_congr fun a ha _ => s.take_sameBytes q n a (by simp only [Config.bodyOffset] at ha; omega)

theorem State.take_rideZones (s : State) (q : QueueId) (n : Fin 32) (b a : Nat) :
    (s.take q n).mem.rideZones b a = s.mem.rideZones b a := by
  have hroute := Memory.route_congr fun a (ha : 0x1000 ≤ a) =>
    s.take_read_of_le q n (a := a) (by simp only [Config.mirrorBase]; omega)
  simp only [Memory.rideZones, Memory.zonesOf, State.take_header, hroute]

theorem State.take_snapshot (s : State) (q : QueueId) (n : Fin 32) : (s.take q n).snapshot = s.snapshot := rfl

/-- The layout is the first byte of the body. -/
theorem State.layout_eq_two_iff (s : State) (n : Fin 32) :
    (Ticket.ofImage (s.cellBody n)).layout = 2 ↔ s.cellByte n 8 = 0x02#8 := by
  have hbyte : (s.cellBody n).getD 0 0#8 = s.cellByte n 8 := rfl
  have hlayout : (Ticket.ofImage (s.cellBody n)).layout = (s.cellByte n 8).toNat := by
    rw [Ticket.ofImage_fields (s.cellBody_length n) (fun _ => rfl) (fun _ => rfl), ← hbyte]
  rw [hlayout, ← BitVec.toNat_inj]
  rfl

theorem Memory.header_up (m : Memory) : m.header.up = decide (m.read 0x1002 = 0#8) := by
  rw [Header.up_eq]
  exact decide_eq_decide.mpr (BitVec.toNat_eq (y := 0#8)).symm

/-- Settles O28: the take by the outcomes of `State.beginInspection_eq`, read off the state before it. -/
theorem inspectTakesHeadWithSnapshot : Obligations.InspectTakesHeadWithSnapshot := by
  unfold Obligations.InspectTakesHeadWithSnapshot
  intro s n rest up ahead stops k presentation boarding alighting override b a fault hs hqueue hidle hservice hclose
    hup hstops hk hpresentation hboarding halighting hoverride hahead hb ha hfault
  have hup' : s.mem.header.up = up := by rw [hup, Memory.header_up]
  have hahead' : s.mem.header.ahead = ahead := by
    rw [hahead, ← hup']
    rfl
  have hfrom : (s.inspectParams n).from s.snapshot = b := by
    rw [hb, hboarding, hk]
    rfl
  have hto : (s.inspectParams n).to s.mem.header s.snapshot = a := by
    rw [ha, halighting, hk, InspectParams.to, Header.next, hup']
    rfl
  have hfault' : requestFault s.mem.header s.snapshot (s.inspectParams n) = fault := by
    rw [requestFault_eq, hfault, hfrom, hto, hahead', hpresentation, hboarding, halighting, hoverride, hstops, hk]
    rfl
  obtain ⟨-, htaken, hbytes⟩ := State.take_spec hs .inspection n
  obtain ⟨m, N, htake⟩ := s.take_frame .inspection n
  obtain ⟨f, run, h, hcell, hunformed, hsnap, hnone, hbad, hasks⟩ := (s.take .inspection n).beginInspection_eq n
  simp only [State.take_header, State.take_snapshot, State.take_inspectParams, State.take_cellBody, State.take_rideZones,
    State.take_table, State.take_check, hfrom, hto, hfault', State.layout_eq_two_iff, Ne] at hnone hbad hasks
  have hrun (w : Option (List Byte)) : (CheckUnit.choose { s.check with engineJob := w }).engineJob = w :=
    CheckUnit.choose_engineJob _
  have kept (hsame : run = s.check.engineJob) : CheckUnit.choose { s.check with engineJob := run } = s.check.choose := by
    rw [hsame]
  have hqueue' : s.intake.setQueue .inspection (s.intake.queue .inspection).tail = { s.intake with inspection := rest } := by
    show { s.intake with inspection := s.intake.inspection.tail } = _
    rw [hqueue]
    rfl
  rw [exec_inspect hqueue (State.mayInspect_of_idle hidle hservice hclose), h]
  rw [hqueue'] at htake
  generalize s.take .inspection n = u at htaken hbytes htake hsnap ⊢
  subst htake
  refine ⟨_, f, rfl, rfl, ?_, htaken, hbytes, hcell, hunformed, hsnap, fun h₀ => ?_, fun d h₀ h₁ => ?_, fun h₀ h₁ => ?_⟩
  · exact congrArg (fun c : CheckUnit => ({ s.settled with
      mem := m, intake := { s.intake with inspection := rest }, engine := { s.engine with flight := some f },
      check := c, notice := _ } : State)) (congrArg (fun w => CheckUnit.choose { s.check with engineJob := w }) (hrun run).symm)
  · obtain ⟨hstage, hdetail, hzones, hsane, hsame⟩ := hnone h₀
    exact ⟨hstage, hdetail, hzones, hsane, kept hsame⟩
  · obtain ⟨hstage, hdetail, hzones, hsane, hsame⟩ := hbad d h₀ h₁
    exact ⟨hstage, hdetail, hzones, hsane, kept hsame⟩
  · obtain ⟨hride, hzones, hsane, hlayout, hcheck⟩ := hasks h₀ h₁
    refine ⟨hride, hzones, hsane, fun h₂ => ?_, fun h₂ => ?_⟩
    · obtain ⟨hstage, hdetail, hsame⟩ := hlayout h₂
      exact ⟨hstage, hdetail, kept hsame⟩
    · obtain ⟨hstage, hdetail, hjob⟩ := hcheck h₂
      exact ⟨hstage, hdetail, (hrun run).trans hjob⟩

/-! ### The image with its new mark (R94, R95) -/

section
variable {img : List Byte} (h : img.length = 32) (rides train day minute sequence : Nat)
include h

theorem getD_composeImage_of_kept {i : Nat} (hi : i < 20 ∨ i = 21 ∨ i = 22) :
    (composeImage img rides train day minute sequence).getD i 0#8 = img.getD i 0#8 := by
  rcases hi with hi | rfl | rfl
  · rw [composeImage]
    simp only [List.append_assoc]
    rw [List.getD_append _ _ _ _ (by rw [List.length_take]; omega), List.getD_eq_getElem?_getD, List.getElem?_take_of_lt hi,
      List.getD_eq_getElem?_getD]
  · simp [composeImage, h]
  · simp [composeImage, h]

theorem getD_composeImage_mark :
    (composeImage img rides train day minute sequence).getD 20 0#8 = byteOf rides ∧
    (composeImage img rides train day minute sequence).getD 23 0#8 = byteOf (train / 256) ∧
    (composeImage img rides train day minute sequence).getD 24 0#8 = byteOf train ∧
    (composeImage img rides train day minute sequence).getD 25 0#8 = byteOf (day / 256) ∧
    (composeImage img rides train day minute sequence).getD 26 0#8 = byteOf day ∧
    (composeImage img rides train day minute sequence).getD 27 0#8 = byteOf (minute / 256) ∧
    (composeImage img rides train day minute sequence).getD 28 0#8 = byteOf minute ∧
    (composeImage img rides train day minute sequence).getD 29 0#8 = byteOf sequence := by
  refine ⟨?_, ?_, ?_, ?_, ?_, ?_, ?_, ?_⟩ <;> simp [composeImage, h, be16]

end

/-- A composed image differs from the one presented in its mark and its rides alone. -/
theorem Ticket.ofImage_composeImage {img : List Byte} (h : img.length = 32) {rides train day minute sequence : Nat}
    (hrides : rides ≤ 255) (htrain : train ≤ 65535) (hday : day ≤ 65535) (hminute : minute ≤ 65535)
    (hsequence : sequence ≤ 255) : Ticket.ofImage (composeImage img rides train day minute sequence) =
      { Ticket.ofImage img with
        ridesRemaining := rides, markTrain := train, markDay := day, markMinute := minute, markSequence := sequence } := by
  have kept (i : Nat) (hi : i < 20 ∨ i = 21 ∨ i = 22) := getD_composeImage_of_kept h rides train day minute sequence hi
  obtain ⟨h₂₀, h₂₃, h₂₄, h₂₅, h₂₆, h₂₇, h₂₈, h₂₉⟩ := getD_composeImage_mark h rides train day minute sequence
  rw [Ticket.ofImage_fields (composeImage_length h rides train day minute sequence) (fun _ => rfl) (fun _ => rfl),
    Ticket.ofImage_fields h (fun _ => rfl) (fun _ => rfl)]
  simp (disch := decide) only [kept, h₂₀, h₂₃, h₂₄, h₂₅, h₂₆, h₂₇, h₂₈, h₂₉, byteOf_toNat, Nat.reduceAdd, Ticket.mk.injEq,
    true_and]
  omega

end Sys2Proof.Machine
end

section
/-!
The verdict engine's deny lookup where a list holds the medium: REVOKED, PASSBACK and REPEAT with its consumption guard
(R22 to R24, R97). The equations of the lookup's result come first, by its cases; the end of the event is one lemma over
them.
-/

namespace Sys2Proof.Machine

/-! ### What the result of the lookup makes of the state, by cases (R22 to R24) -/

/-- The ticket that a cell's body presents. -/
abbrev State.ticket (s : State) (n : Fin 32) : Ticket :=
  Ticket.ofImage (s.cellBody n)

section
variable {s : State} {f : Flight}

theorem State.afterDenyLookup_of_hit (s : State) (f : Flight) (e : DenyEntry) : s.afterDenyLookup f (some e) =
    s.setFlight { f with stage := .judged .revoked, detail := 0#8, denyReason := e.reason } := rfl

theorem State.afterDenyLookup_of_first {e : RoundEntry} (hfound : roundEntry s.rounds (s.ticket f.cell).mediaId = some e)
    (hfirst : (s.inspectParams f.cell).presentation = 0) : s.afterDenyLookup f none =
      State.setFlight { s with rounds := raisePresented s.rounds (s.ticket f.cell).mediaId }
        { f with stage := .judged .passback, detail := 0#8, presented := raisedCount e.presented } := by
  rw [State.afterDenyLookup, State.afterDenyMiss, hfound]
  exact if_pos hfirst

theorem State.afterDenyLookup_of_recheck {e : RoundEntry}
    (hfound : roundEntry s.rounds (s.ticket f.cell).mediaId = some e)
    (hrecheck : (s.inspectParams f.cell).presentation ≠ 0) : s.afterDenyLookup f none =
      State.repeatFound { s with rounds := raisePresented s.rounds (s.ticket f.cell).mediaId }
        { f with presented := raisedCount e.presented } (s.ticket f.cell) e := by
  rw [State.afterDenyLookup, State.afterDenyMiss, hfound]
  exact if_neg hrecheck

theorem State.afterDenyLookup_of_fresh (hmissing : roundEntry s.rounds (s.ticket f.cell).mediaId = none) :
    s.afterDenyLookup f none = s.prepare (f.judgeFresh s.mem (s.ticket f.cell)) := by
  rw [State.afterDenyLookup, State.afterDenyMiss, hmissing]

/-- The flight of a RECHECK found, before the consumption guard (R24, R97). -/
abbrev Flight.repeated (f : Flight) (e : RoundEntry) : Flight :=
  { f with storedAmount := e.amount, sequence := e.sequence, detail := e.verdict.code }

theorem State.repeatFound_of_none {t : Ticket} {e : RoundEntry}
    (h : consumptionGuard s.mem.header.train f.snap.serviceDay t e = none) :
    s.repeatFound f t e = s.setFlight { f.repeated e with stage := .judged .repeat } := by
  rw [State.repeatFound]
  dsimp only
  rw [h]

theorem State.repeatFound_of_some {t : Ticket} {e : RoundEntry} {taken : Nat}
    (h : consumptionGuard s.mem.header.train f.snap.serviceDay t e = some taken) :
    s.repeatFound f t e =
      s.compose (f.repeated e) .repeat (f.markedImage s.mem (s.cellBody f.cell) taken e.sequence) := by
  rw [State.repeatFound]
  dsimp only
  rw [h]
  rfl

end

/-! ### The end of the event -/

/-- The deny list unit without the verdict engine's lookup, which is being served. -/
abbrev State.engineServed (s : State) : State :=
  { s with deny := { s.deny with engineLookup := none } }

section
variable {s : State} {f : Flight} {media day : Nat}
  (hserving : s.deny.choose.serving = some (.lookup none) ∨
    s.deny.choose.serving = some (.lookup (some .verdictEngine)))
  (hlookup : s.deny.engineLookup = some (media, day)) (hflight : s.engine.flight = some f) (hstage : f.stage = .deny)
include hserving hlookup hflight hstage

theorem exec_lookup_of_flight : exec (.denyLookup .verdictEngine) s =
    (s.engineServed.afterDenyLookup f (denyHit s.deny.list media day)).completeDeny.event := by
  rw [exec_engineLookup (DenyUnit.serves_of_choose hserving) hlookup, State.serveEngineLookup]
  dsimp only
  rw [hflight]
  dsimp only
  rw [if_pos hstage]

/-- What the lookup's result makes of the flight, the presented counts and the engine's check job is all that the event
makes of them; the deny list unit completes its lookup. -/
theorem lookup_leaves {g : Flight} {l : List RoundEntry} {run : Option (List Byte)}
    (h : s.engineServed.afterDenyLookup f (denyHit s.deny.list media day) = { s.engineServed with
      engine := { s.engine with flight := some g }, rounds := l, check := { s.check with engineJob := run } }) :
    ∃ t, exec (.denyLookup .verdictEngine) s = .next t ∧ t.engine = { s.engine with flight := some g } ∧ t.rounds = l ∧
      t.check = CheckUnit.choose { s.check with engineJob := run } ∧
      t = { s.settled with
        engine := { s.engine with flight := some g }
        rounds := t.rounds
        check := CheckUnit.choose { s.check with engineJob := t.check.engineJob }
        deny := DenyUnit.advance { s.deny with
          sweep := t.deny.sweep, dayWaiting := none, serving := none, engineLookup := none }
        notice := { s.notice with noteN := !t.anyPending } } := by
  rw [exec_lookup_of_flight hserving hlookup hflight hstage]
  generalize s.engineServed.afterDenyLookup f (denyHit s.deny.list media day) = v at h ⊢
  have hcheck : v.completeDeny.driveNote.settled.check = CheckUnit.choose { s.check with engineJob := run } := by
    rw [h]
    rfl
  have hrun : v.completeDeny.driveNote.settled.check.engineJob = run := by rw [hcheck, CheckUnit.choose_engineJob]
  obtain ⟨hdeny, -, -⟩ := lookup_completes (s := s) (u := v.completeDeny) (d := { s.deny with engineLookup := none })
    (by rw [h]; rfl) rfl rfl rfl rfl
  have hnote : v.completeDeny.driveNote.settled.notice.noteN = !v.completeDeny.driveNote.settled.anyPending :=
    v.completeDeny.event_noteAgrees
  refine ⟨_, rfl, by rw [h]; rfl, by rw [h]; rfl, hcheck, ?_⟩
  rw [← hdeny, ← hnote, hrun, h]
  rfl

end

/-! ### REVOKED, PASSBACK and REPEAT (R22 to R24) -/

/-- A RECHECK found is REPEAT, with or without an image. -/
theorem State.repeatFound_eq (s : State) (f : Flight) (t : Ticket) (e : RoundEntry) : ∃ stage image run,
    s.repeatFound f t e = { s with
      engine := { s.engine with flight := some { f.repeated e with stage := stage, image := image } }
      check := { s.check with engineJob := run } } ∧
    (stage = .judged .repeat ∨ stage = .composing .repeat) := by
  cases h : consumptionGuard s.mem.header.train f.snap.serviceDay t e with
  | none =>
    rw [State.repeatFound_of_none h]
    exact ⟨_, _, _, rfl, .inl rfl⟩
  | some taken =>
    rw [State.repeatFound_of_some h]
    exact ⟨_, _, _, rfl, .inr rfl⟩

theorem Flight.verdict_of_stage {f : Flight} {v : Verdict} (h : f.stage = .judged v ∨ f.stage = .composing v) :
    f.verdict = some v := by
  rcases h with h | h <;> rw [Flight.verdict, h]

/-- Settles O30: the lookup's result is a hit, a miss on a medium of the round, or a miss on another. -/
theorem denyLookupGivesRevokedPassbackRepeat : Obligations.DenyLookupGivesRevokedPassbackRepeat := by
  unfold Obligations.DenyLookupGivesRevokedPassbackRepeat
  intro s f media day hserving hlookup hflight hstage
  have leaves {g l run} := lookup_leaves (g := g) (l := l) (run := run) hserving hlookup hflight hstage
  cases hhit : denyHit s.deny.list media day with
  | some e =>
    rw [hhit] at leaves
    obtain ⟨t, hexec, hengine, hrounds, hcheck, ht⟩ := leaves (State.afterDenyLookup_of_hit _ f e)
    refine ⟨t, _, hexec, congrArg VerdictEngine.flight hengine, ht, ?_, nofun, nofun⟩
    rintro _ ⟨⟩
    exact ⟨rfl, hrounds, hcheck⟩
  | none =>
    rw [hhit] at leaves
    cases hfound : roundEntry s.rounds (s.ticket f.cell).mediaId with
    | none =>
      obtain ⟨g, -, -, h⟩ := s.engineServed.afterDenyMiss_spec f
      have hmissing : roundEntry s.engineServed.rounds (Ticket.ofImage (s.engineServed.cellBody f.cell)).mediaId = none :=
        hfound
      rw [hmissing] at h
      obtain ⟨t, hexec, hengine, hrounds, -, ht⟩ := leaves h
      exact ⟨t, g, hexec, congrArg VerdictEngine.flight hengine, ht, nofun, nofun, fun _ _ => hrounds⟩
    | some e =>
      by_cases hfirst : (s.inspectParams f.cell).presentation = 0
      · obtain ⟨t, hexec, hengine, hrounds, hcheck, ht⟩ :=
          leaves (State.afterDenyLookup_of_first (s := s.engineServed) hfound hfirst)
        refine ⟨t, _, hexec, congrArg VerdictEngine.flight hengine, ht, nofun, ?_, nofun⟩
        rintro _ - ⟨⟩
        exact ⟨hrounds, fun _ => ⟨rfl, hcheck⟩, fun hrecheck => absurd hfirst hrecheck,
          fun ⟨hcount, _, hgrace, htime, hreason, _, _, _, hconsumed, _⟩ => ⟨hcount, hgrace, htime, hconsumed, hreason⟩⟩
      · obtain ⟨stage, image, run, h, hrepeat⟩ := State.repeatFound_eq
          { s.engineServed with rounds := raisePresented s.rounds (s.ticket f.cell).mediaId }
          { f with presented := raisedCount e.presented } (s.ticket f.cell) e
        have h' := State.afterDenyLookup_of_recheck (s := s.engineServed) hfound hfirst
        obtain ⟨t, hexec, hengine, hrounds, -, ht⟩ := leaves (h'.trans h)
        refine ⟨t, _, hexec, congrArg VerdictEngine.flight hengine, ht, nofun, ?_, nofun⟩
        rintro _ - ⟨⟩
        exact ⟨hrounds, fun h₀ => absurd h₀ hfirst, fun _ => ⟨rfl, Flight.verdict_of_stage hrepeat⟩,
          fun ⟨hcount, _, hgrace, htime, hreason, _, _, _, hconsumed, _⟩ => ⟨hcount, hgrace, htime, hconsumed, hreason⟩⟩

/-! ### The consumption guard (R97, Table 5-2) -/

theorem consumptionGuard_eq (train serviceDay : Nat) (t : Ticket) (e : RoundEntry) :
    consumptionGuard train serviceDay t e =
      if e.sequence = 0 ∨ t.markTrain = train ∧ t.markDay = serviceDay ∧ t.markSequence = e.sequence ∨
          e.consumed = true ∧ t.product = 1 ∧ t.ridesRemaining = 0 then none
      else some (if e.consumed = true ∧ t.product = 1 then 1 else 0) := by
  unfold consumptionGuard
  by_cases hsequence : e.sequence = 0
  · simp [hsequence]
  by_cases hmark : t.markTrain = train ∧ t.markDay = serviceDay ∧ t.markSequence = e.sequence
  · simp [hmark]
  cases hconsumed : e.consumed with
  | false => simp [hsequence, hmark]
  | true =>
    by_cases hproduct : t.product = 1 <;> by_cases hrides : t.ridesRemaining = 0 <;>
      simp [hsequence, hmark, hproduct, hrides]

theorem Ticket.ridesRemaining_le (s : State) (n : Fin 32) : (s.ticket n).ridesRemaining ≤ 255 := by
  rw [State.ticket, Ticket.ofImage_fields (s.cellBody_length n) (fun _ => rfl) (fun _ => rfl)]
  exact Nat.le_of_lt_succ (BitVec.isLt _)

/-- The fields of a marked image of the medium presented (R94, R98). -/
theorem Flight.ticket_markedImage (f : Flight) (s : State) (n : Fin 32) (taken : Nat) {sequence : Nat}
    (hday : f.snap.serviceDay ≤ 65535) (hminute : f.snap.minute ≤ 1439) (hsequence : sequence ≤ 255) :
    (f.markedImage s.mem (s.cellBody n) taken sequence).length = 32 ∧
    Ticket.ofImage (f.markedImage s.mem (s.cellBody n) taken sequence) = { s.ticket n with
      ridesRemaining := (s.ticket n).ridesRemaining - taken, markTrain := s.mem.header.train, markDay := f.snap.serviceDay,
      markMinute := f.snap.minute, markSequence := sequence } := by
  have hlength := s.cellBody_length n
  have hrides := Ticket.ridesRemaining_le s n
  exact ⟨composeImage_length hlength _ _ _ _ _, Ticket.ofImage_composeImage hlength ((Nat.sub_le _ _).trans hrides)
    (s.mem.read16_le _) hday (by omega) hsequence⟩

/-- Settles O33: the guard's rows with no image, and the image it has re-composed. -/
theorem repeatFollowsConsumptionGuard : Obligations.RepeatFollowsConsumptionGuard := by
  unfold Obligations.RepeatFollowsConsumptionGuard
  rintro s f media day k e hserving hlookup hflight hstage himage hhit rfl hfound hrecheck hsequence hday hminute
  have leaves {g l run} := lookup_leaves (g := g) (l := l) (run := run) hserving hlookup hflight hstage
  rw [hhit, State.afterDenyLookup_of_recheck (s := s.engineServed) hfound
    (show (s.inspectParams f.cell).presentation ≠ 0 by omega)] at leaves
  have hguard := consumptionGuard_eq s.mem.header.train f.snap.serviceDay (s.ticket f.cell) e
  split at hguard
  next hrows =>
    obtain ⟨t, hexec, hengine, -, hcheck, -⟩ := leaves (State.repeatFound_of_none hguard)
    exact ⟨t, _, hexec, congrArg VerdictEngine.flight hengine, by rw [hengine], fun _ => ⟨rfl, himage, hcheck⟩,
      fun h₁ h₂ h₃ => absurd hrows (by tauto)⟩
  next hrows =>
    obtain ⟨t, hexec, hengine, -, hcheck, -⟩ := leaves (State.repeatFound_of_some hguard)
    obtain ⟨hlength, hticket⟩ := Flight.ticket_markedImage { f with presented := raisedCount e.presented } s f.cell
      (if e.consumed = true ∧ (s.ticket f.cell).product = 1 then 1 else 0) hday hminute hsequence
    have hrides : (s.ticket f.cell).ridesRemaining - (if e.consumed = true ∧ (s.ticket f.cell).product = 1 then 1 else 0) =
        if e.consumed = true ∧ (s.ticket f.cell).product = 1 then (s.ticket f.cell).ridesRemaining - 1
        else (s.ticket f.cell).ridesRemaining := by
      rw [apply_ite ((s.ticket f.cell).ridesRemaining - ·), Nat.sub_zero]
    rw [hrides] at hticket
    refine ⟨t, _, hexec, congrArg VerdictEngine.flight hengine, by rw [hengine], fun h => absurd h hrows,
      fun _ _ _ => ⟨_, rfl, rfl, ?_, hlength, hticket⟩⟩
    rw [hcheck, CheckUnit.choose_engineJob]

end Sys2Proof.Machine
end

section
/-!
The stages of a medium that neither list holds: time, rides and coverage in equations, and the new mark of the verdicts
that take one (R25 to R30, R93 to R95).
-/

namespace Sys2Proof.Machine

/-! ### Coverage (R27, R28) -/

theorem coverageVerdict_of_some {c t : Nat} (h : 0 < c) (hlt : c < t) (grace : Bool) :
    coverageVerdict c t grace = .shortfall := by
  rw [coverageVerdict, if_neg (by omega), if_pos hlt]

theorem coverageVerdict_of_all {c t : Nat} (h : 0 < c) (hle : t ≤ c) (grace : Bool) :
    coverageVerdict c t grace = if grace then .validGrace else .valid := by
  rw [coverageVerdict, if_neg (by omega), if_neg (by omega)]

theorem coverageVerdict_eq_noCover_iff (c t : Nat) (grace : Bool) : coverageVerdict c t grace = .noCover ↔ c = 0 := by
  unfold coverageVerdict
  split
  next h => simp [h]
  next h => split <;> [skip; split] <;> simp [h]

section
variable {f : Flight} {m : Memory} {t : Ticket}

theorem Flight.judgeCoverage_of_zones {a b c : Nat} (hproduct : t.product ≠ 3) (hslices : f.slices = some (a, b))
    (hc : c = countCovered f.zones (coveredZones t.zoneMask a b)) : f.judgeCoverage m t = { f with
      covered := coveredZones t.zoneMask a b
      coveredCount := c
      stage := .judged (coverageVerdict c f.zones.length f.grace)
      detail := if c = 0 then 0x01#8 else 0#8 } := by
  have hdetail : (if coverageVerdict c f.zones.length f.grace = .noCover then 0x01#8 else 0#8) =
      if c = 0 then 0x01#8 else 0#8 :=
    if_congr (coverageVerdict_eq_noCover_iff _ _ _) rfl rfl
  rw [← hdetail, Flight.judgeCoverage, if_neg hproduct, Flight.judgeZones, hslices, hc]
  rfl

theorem Flight.judgeCoverage_of_no_stop (hproduct : t.product = 3) (hstop : m.findStop t.checkinStop = none) :
    f.judgeCoverage m t = { f with stage := .judged .noCover, detail := 0x02#8 } := by
  rw [Flight.judgeCoverage, if_pos hproduct, Flight.judgeCheckin, hstop]
  rfl

theorem Flight.judgeCoverage_of_ahead {i b a : Nat} (hproduct : t.product = 3)
    (hstop : m.findStop t.checkinStop = some i) (hride : f.ride = some (b, a))
    (hahead : (m.header.ahead i f.snap.stop || m.header.ahead i a) = true) :
    f.judgeCoverage m t = { f with stage := .judged .noCover, detail := 0x03#8 } := by
  rw [Flight.judgeCoverage, if_pos hproduct, Flight.judgeCheckin, hstop]
  exact if_pos (by rwa [hride])

theorem Flight.judgeCoverage_of_checkin {i b a : Nat} (hproduct : t.product = 3)
    (hstop : m.findStop t.checkinStop = some i) (hride : f.ride = some (b, a))
    (hahead : (m.header.ahead i f.snap.stop || m.header.ahead i a) = false) :
    f.judgeCoverage m t = { f with
      ride := some (i, a)
      zones := m.rideZones i a
      coveredCount := (m.rideZones i a).length
      stage := .judged (if f.grace then .validGrace else .valid)
      detail := 0#8 } := by
  rw [Flight.judgeCoverage, if_pos hproduct, Flight.judgeCheckin, hstop, hride]
  exact if_neg (by simpa using hahead)

/-- Coverage forms no value but the ride, C and the verdict with its detail. -/
theorem Flight.judgeCoverage_frame (f : Flight) (m : Memory) (t : Ticket) : ∃ v d r z l c,
    f.judgeCoverage m t = { f with
      stage := .judged v, detail := d, ride := r, zones := z, covered := l, coveredCount := c } := by
  unfold Flight.judgeCoverage
  split
  · unfold Flight.judgeCheckin
    split
    · exact ⟨_, _, _, _, _, _, rfl⟩
    · dsimp only
      split
      · exact ⟨_, _, _, _, _, _, rfl⟩
      · exact ⟨_, _, _, _, _, _, rfl⟩
  · exact ⟨_, _, _, _, _, _, rfl⟩

end

/-! ### Rides and time (R25, R26) -/

theorem Ticket.needsRide_iff (t : Ticket) (train serviceDay : Nat) : t.needsRide train serviceDay = true ↔
    t.product = 1 ∧ ¬ (t.markTrain = train ∧ t.markDay = serviceDay) := by
  simp only [Ticket.needsRide, Bool.and_eq_true, decide_eq_true_eq, Bool.not_eq_true', decide_eq_false_iff_not,
    productRides]

section
variable {f : Flight} {m : Memory} {t : Ticket}

theorem Flight.judgeRides_of_exhausted (hneeds : t.needsRide m.header.train f.snap.serviceDay = true)
    (hrides : t.ridesRemaining = 0) : f.judgeRides m t = { f with stage := .judged .exhausted, detail := 0#8 } := by
  rw [Flight.judgeRides, hneeds, decide_eq_true hrides]
  rfl

theorem Flight.judgeRides_of_rides
    (h : ¬ (t.needsRide m.header.train f.snap.serviceDay = true ∧ t.ridesRemaining = 0)) :
    f.judgeRides m t =
      Flight.judgeCoverage { f with rideDue := t.needsRide m.header.train f.snap.serviceDay } m t :=
  if_neg (by simpa using h)

/-- The stages from the rides on form no value but the ride due, the ride, C and the verdict with its detail. -/
theorem Flight.judgeRides_frame (f : Flight) (m : Memory) (t : Ticket) : ∃ v d r z l c due,
    f.judgeRides m t = { f with
      stage := .judged v, detail := d, ride := r, zones := z, covered := l, coveredCount := c, rideDue := due } := by
  by_cases h : t.needsRide m.header.train f.snap.serviceDay = true ∧ t.ridesRemaining = 0
  · exact ⟨_, _, _, _, _, _, _, Flight.judgeRides_of_exhausted h.1 h.2⟩
  · obtain ⟨v, d, r, z, l, c, hcoverage⟩ :=
      Flight.judgeCoverage_frame { f with rideDue := t.needsRide m.header.train f.snap.serviceDay } m t
    exact ⟨v, d, r, z, l, c, _, (Flight.judgeRides_of_rides h).trans hcoverage⟩

/-- A verdict that takes a mark takes the ride that is due. -/
theorem Flight.judgeRides_rideDue {v : Verdict} (hv : (f.judgeRides m t).verdict = some v) (hmarks : v.marks = true) :
    (f.judgeRides m t).rideDue = t.needsRide m.header.train f.snap.serviceDay := by
  by_cases h : t.needsRide m.header.train f.snap.serviceDay = true ∧ t.ridesRemaining = 0
  · rw [Flight.judgeRides_of_exhausted h.1 h.2] at hv
    obtain rfl : .exhausted = v := Option.some.inj hv
    cases hmarks
  · rw [Flight.judgeRides_of_rides h]
    exact (Flight.judgeCoverage_spec _ m t).2.1

theorem Flight.judgeFresh_of_notYetValid (h : timeStage m.header f.snap t = .notYetValid) :
    f.judgeFresh m t = { f with stage := .judged .notYetValid, detail := 0#8 } := by
  rw [Flight.judgeFresh, h]
  rfl

theorem Flight.judgeFresh_of_expired {d : Byte} (h : timeStage m.header f.snap t = .expired d) :
    f.judgeFresh m t = { f with stage := .judged .expired, detail := d } := by
  rw [Flight.judgeFresh, h]
  rfl

/-- The time stage leaves GRACE and TIME_UNCHECKED, and the judging goes on with the rides. -/
theorem Flight.judgeFresh_of_timely {grace unchecked : Bool} (hgrace : f.grace = false)
    (hunchecked : f.timeUnchecked = false) (h : timeStage m.header f.snap t = .pass grace ∧ unchecked = false ∨
      timeStage m.header f.snap t = .unchecked ∧ grace = false ∧ unchecked = true) :
    f.judgeFresh m t = Flight.judgeRides { f with grace := grace, timeUnchecked := unchecked } m t := by
  rcases h with ⟨h, rfl⟩ | ⟨h, rfl, rfl⟩
  · rw [Flight.judgeFresh, h, ← hunchecked]
  · rw [Flight.judgeFresh, h, ← hgrace]

/-- The time stage passes, or gives NOT_YET_VALID or EXPIRED. -/
theorem timeStage_cases (h : Header) (snap : Snapshot) (t : Ticket) :
    timeStage h snap t = .notYetValid ∨ (∃ d, timeStage h snap t = .expired d) ∨
      ∃ grace unchecked, timeStage h snap t = .pass grace ∧ unchecked = false ∨
        timeStage h snap t = .unchecked ∧ grace = false ∧ unchecked = true := by
  cases timeStage h snap t with
  | notYetValid => exact .inl rfl
  | expired d => exact .inr (.inl ⟨d, rfl⟩)
  | unchecked => exact .inr (.inr ⟨false, true, .inr ⟨rfl, rfl, rfl⟩⟩)
  | pass grace => exact .inr (.inr ⟨grace, false, .inl ⟨rfl, rfl⟩⟩)

/-- The stages form no value but those named here. -/
theorem Flight.judgeFresh_frame (hgrace : f.grace = false) (hunchecked : f.timeUnchecked = false) :
    ∃ v d r z l c due grace unchecked, f.judgeFresh m t = { f with
      stage := .judged v, detail := d, ride := r, zones := z, covered := l, coveredCount := c, rideDue := due
      grace := grace, timeUnchecked := unchecked } := by
  rcases timeStage_cases m.header f.snap t with h | ⟨d, h⟩ | ⟨grace, unchecked, h⟩
  · exact ⟨_, _, _, _, _, _, _, _, _, Flight.judgeFresh_of_notYetValid h⟩
  · exact ⟨_, _, _, _, _, _, _, _, _, Flight.judgeFresh_of_expired h⟩
  · obtain ⟨v, d, r, z, l, c, due, hrides⟩ :=
      Flight.judgeRides_frame { f with grace := grace, timeUnchecked := unchecked } m t
    exact ⟨v, d, r, z, l, c, due, grace, unchecked, (Flight.judgeFresh_of_timely hgrace hunchecked h).trans hrides⟩

theorem Flight.judgeFresh_rideDue {v : Verdict} (hv : (f.judgeFresh m t).verdict = some v) (hmarks : v.marks = true) :
    (f.judgeFresh m t).rideDue = t.needsRide m.header.train f.snap.serviceDay := by
  unfold Flight.judgeFresh at hv ⊢
  split at hv
  · obtain rfl : .notYetValid = v := Option.some.inj hv
    cases hmarks
  · obtain rfl : .expired = v := Option.some.inj hv
    cases hmarks
  next h =>
    exact Flight.judgeRides_rideDue hv hmarks
  next h =>
    exact Flight.judgeRides_rideDue hv hmarks

end

/-! ### What the judged flight goes on with (R30, R91) -/

/-- A judged flight stands, or has its image with a new mark under composition. -/
theorem State.prepare_of_not_marks {s : State} {j : Flight} {v : Verdict} (hv : j.verdict = some v)
    (hmarks : v.marks = false) : s.prepare j = s.setFlight j := by
  rw [State.prepare, hv]
  exact if_neg (by rw [hmarks]; decide)

theorem State.prepare_of_marks {s : State} {j : Flight} {v : Verdict} (hv : j.verdict = some v)
    (hmarks : v.marks = true) : s.prepare j =
      s.compose { j with sequence := nextSequence s.engine.counter, consumed := j.rideDue } v
        (j.markedImage s.mem (s.cellBody j.cell) (if j.rideDue then 1 else 0) (nextSequence s.engine.counter)) := by
  rw [State.prepare, hv]
  exact if_pos hmarks

theorem State.prepare_eq (s : State) {j : Flight} {v : Verdict} (hv : j.verdict = some v) : ∃ g run,
    s.prepare j = { s with
      engine := { s.engine with flight := some g }
      check := { s.check with engineJob := run } } ∧
    (∃ stage image sequence consumed,
      g = { j with stage := stage, image := image, sequence := sequence, consumed := consumed }) ∧
    g.verdict = some v ∧ (v.marks = false → g = j) := by
  cases hmarks : v.marks with
  | false => exact ⟨j, _, State.prepare_of_not_marks hv hmarks, ⟨_, _, _, _, rfl⟩, hv, fun _ => rfl⟩
  | true => exact ⟨_, _, State.prepare_of_marks hv hmarks, ⟨_, _, _, _, rfl⟩, rfl, nofun⟩

theorem Memory.findStop_eq_some_iff (m : Memory) (code i : Nat) : m.findStop code = some i ↔
    i < m.header.stops ∧ (m.route i).code = code ∧ ∀ j, j < i → (m.route j).code ≠ code := by
  rw [Memory.findStop, List.find?_range_eq_some]
  simp only [beq_iff_eq, List.mem_range, Bool.not_eq_true', beq_eq_false_iff_ne]
  exact and_left_comm

/-- The lookup's event where neither list holds the medium: the judged flight goes on (R25 to R30). -/
theorem lookup_judges {s : State} {f : Flight} {media day : Nat}
    (hserving : s.deny.choose.serving = some (.lookup none) ∨
      s.deny.choose.serving = some (.lookup (some .verdictEngine)))
    (hlookup : s.deny.engineLookup = some (media, day)) (hflight : s.engine.flight = some f) (hstage : f.stage = .deny)
    (hmiss : denyHit s.deny.list media day = none) (hmissing : roundEntry s.rounds (s.ticket f.cell).mediaId = none)
    {g : Flight} {run : Option (List Byte)}
    (h : s.engineServed.prepare (f.judgeFresh s.mem (s.ticket f.cell)) = { s.engineServed with
      engine := { s.engine with flight := some g }, check := { s.check with engineJob := run } }) :
    ∃ t, exec (.denyLookup .verdictEngine) s = .next t ∧ t.engine.flight = some g ∧ t.check.engineJob = run := by
  have leaves := lookup_leaves (g := g) (l := s.rounds) (run := run) hserving hlookup hflight hstage
  rw [hmiss, State.afterDenyLookup_of_fresh (s := s.engineServed) hmissing] at leaves
  obtain ⟨t, hexec, hengine, -, hcheck, -⟩ := leaves h
  exact ⟨t, hexec, congrArg VerdictEngine.flight hengine, by rw [hcheck, CheckUnit.choose_engineJob]⟩

/-- Settles O31: the judged flight stage by stage, and what goes on of it after the verdict. -/
theorem denyLookupJudgesFreshMedium : Obligations.DenyLookupJudgesFreshMedium := by
  unfold Obligations.DenyLookupJudgesFreshMedium
  refine ⟨?_, Memory.findStop_eq_some_iff⟩
  rintro s f media day k hserving hlookup hflight hstage ⟨hcount, -, hgrace, hunchecked, hreason, hpresented, -⟩ hmiss rfl
    hmissing
  obtain ⟨v, d, r, z, l, c, due, grace, unchecked, hframe⟩ :=
    Flight.judgeFresh_frame (m := s.mem) (t := s.ticket f.cell) hgrace hunchecked
  have hverdict : (f.judgeFresh s.mem (s.ticket f.cell)).verdict = some v := by
    rw [hframe]
    rfl
  obtain ⟨g, run, h, hg, hgiven, hplain⟩ := s.engineServed.prepare_eq hverdict
  obtain ⟨t, hexec, hflight', -⟩ := lookup_judges hserving hlookup hflight hstage hmiss hmissing h
  have hsame : g.verdict = (f.judgeFresh s.mem (s.ticket f.cell)).verdict := hgiven.trans hverdict.symm
  have plain {j : Flight} {w : Verdict} (hj : f.judgeFresh s.mem (s.ticket f.cell) = j) (hw : j.verdict = some w)
      (hmarks : w.marks = false) : g = j := by
    rw [hj, hw] at hverdict
    obtain rfl : w = v := Option.some.inj hverdict
    rw [hplain hmarks, hj]
  obtain ⟨stage, image, sequence, consumed, rfl⟩ := hg
  refine ⟨t, _, hexec, hflight', (congrArg Flight.cell hframe :), (congrArg Flight.snap hframe :),
    (congrArg Flight.sane hframe :), (congrArg Flight.denyReason hframe :).trans hreason,
    (congrArg Flight.presented hframe :).trans hpresented,
    fun htime => plain (Flight.judgeFresh_of_notYetValid htime) rfl rfl,
    fun d htime => plain (Flight.judgeFresh_of_expired htime) rfl rfl, fun grace unchecked htime => ?_⟩
  have htimely := Flight.judgeFresh_of_timely hgrace hunchecked htime
  obtain ⟨v, d, r, z, l, c, due, hrides⟩ :=
    Flight.judgeRides_frame { f with grace := grace, timeUnchecked := unchecked } s.mem (s.ticket f.cell)
  have hformed := htimely.trans hrides
  refine ⟨(congrArg Flight.grace hformed :), (congrArg Flight.timeUnchecked hformed :), fun hproduct hmark hnone => ?_,
    fun hhas => ?_⟩
  · have hneeds := (Ticket.needsRide_iff _ _ _).mpr ⟨hproduct, hmark⟩
    exact plain (htimely.trans (Flight.judgeRides_of_exhausted hneeds hnone)) rfl rfl
  have hcovers := htimely.trans (Flight.judgeRides_of_rides
    (f := { f with grace := grace, timeUnchecked := unchecked }) (by rwa [Ticket.needsRide_iff, and_assoc]))
  refine ⟨fun a b c hproduct hslices hc => ?_, fun hproduct hstop => ?_, fun i b a hproduct hstop hride =>
    ⟨fun hahead => ?_, fun hahead => ?_⟩⟩
  · have hjudged := hcovers.trans (Flight.judgeCoverage_of_zones hproduct hslices hc)
    have hverdict := hsame.trans (congrArg Flight.verdict hjudged :)
    have hdetail := (congrArg Flight.detail hjudged :)
    refine ⟨(congrArg Flight.coveredCount hjudged :), (congrArg Flight.zones hjudged :), fun hzero => ?_,
      fun hpos hlt => ?_, fun hpos hle => ?_⟩
    · subst hzero
      exact ⟨hverdict, hdetail⟩
    · exact ⟨hverdict.trans (congrArg some (coverageVerdict_of_some hpos hlt grace)), hdetail.trans (if_neg hpos.ne')⟩
    · exact ⟨hverdict.trans (congrArg some (coverageVerdict_of_all hpos hle grace)), hdetail.trans (if_neg hpos.ne')⟩
  · have hjudged := hcovers.trans (Flight.judgeCoverage_of_no_stop hproduct hstop)
    exact ⟨hsame.trans (congrArg Flight.verdict hjudged :), (congrArg Flight.detail hjudged :),
      (congrArg Flight.zones hjudged :), (congrArg Flight.coveredCount hjudged :).trans hcount⟩
  · have hjudged := hcovers.trans (Flight.judgeCoverage_of_ahead hproduct hstop hride hahead)
    exact ⟨hsame.trans (congrArg Flight.verdict hjudged :), (congrArg Flight.detail hjudged :),
      (congrArg Flight.zones hjudged :), (congrArg Flight.coveredCount hjudged :).trans hcount⟩
  · have hjudged := hcovers.trans (Flight.judgeCoverage_of_checkin hproduct hstop hride hahead)
    have hzones := (congrArg Flight.zones hjudged :)
    exact ⟨hsame.trans (congrArg Flight.verdict hjudged :), (congrArg Flight.detail hjudged :),
      (congrArg Flight.ride hjudged :), hzones,
      (congrArg Flight.coveredCount hjudged :).trans (congrArg List.length hzones).symm⟩

/-! ### The new mark (R30, R93 to R95) -/

theorem Verdict.marks_iff (v : Verdict) : v.marks = true ↔ v ∈ [.valid, .validGrace, .shortfall] := by
  cases v <;> decide

/-- Settles O32: the image that `State.prepare_of_marks` composes, field by field. -/
theorem validVerdictComposesMark : Obligations.ValidVerdictComposesMark := by
  unfold Obligations.ValidVerdictComposesMark
  rintro s f media day k hserving hlookup hflight hstage hmiss rfl hmissing hcounter hday hminute
  obtain ⟨⟨hcell, hsnap, -, -⟩, v, -, hjudged⟩ := f.judgeFresh_spec s.mem (s.ticket f.cell)
  have hverdict := Flight.verdict_of_stage (.inl hjudged)
  have judges {g run} := lookup_judges (g := g) (run := run) hserving hlookup hflight hstage hmiss hmissing
  cases hmarks : v.marks with
  | false =>
    obtain ⟨t, hexec, hflight', -⟩ := judges (State.prepare_of_not_marks hverdict hmarks)
    refine ⟨t, _, hexec, hflight', fun w hw hmember => ?_⟩
    obtain rfl : v = w := Option.some.inj (hverdict.symm.trans hw)
    rw [(v.marks_iff).mpr hmember] at hmarks
    cases hmarks
  | true =>
    obtain ⟨t, hexec, hflight', hjob⟩ := judges (State.prepare_of_marks hverdict hmarks)
    have hdue := Flight.judgeFresh_rideDue hverdict hmarks
    rw [hdue, hcell] at hflight' hjob
    obtain ⟨hlength, hticket⟩ := Flight.ticket_markedImage (f.judgeFresh s.mem (s.ticket f.cell)) s f.cell
      (if (s.ticket f.cell).needsRide s.mem.header.train f.snap.serviceDay then 1 else 0)
      (sequence := nextSequence s.engine.counter) (by rwa [hsnap]) (by rwa [hsnap]) (nextSequence_range hcounter).2
    have hrides (due : Bool) : (s.ticket f.cell).ridesRemaining - (if due then 1 else 0) =
        if due then (s.ticket f.cell).ridesRemaining - 1 else (s.ticket f.cell).ridesRemaining := by
      cases due <;> rfl
    rw [hrides, hsnap] at hticket
    refine ⟨t, _, hexec, hflight', fun w hw hmember => ?_⟩
    obtain rfl : v = w := Option.some.inj hw
    refine ⟨_, (s.ticket f.cell).needsRide s.mem.header.train f.snap.serviceDay, rfl, rfl, hjob, rfl,
      Ticket.needsRide_iff _ _ _, rfl, hlength, hticket⟩

end Sys2Proof.Machine
end

section
/-!
The completion event of an inspection (R29 to R36): the answer with its flags byte, the write-back image, the counter and
the FIRST latch; the round list and the capture.
-/

namespace Sys2Proof.Machine

/-! ### The flags byte (R36) -/

/-- Six bits packed in a byte. -/
theorem packedBits : ∀ a b c d e g : Bool,
    (BitVec.ofNat 8 (a.toNat + 2 * b.toNat + 4 * c.toNat + 8 * d.toNat + 16 * e.toNat + 32 * g.toNat)).toNat < 64 ∧
    [0, 1, 2, 3, 4, 5].map (BitVec.ofNat 8
      (a.toNat + 2 * b.toNat + 4 * c.toNat + 8 * d.toNat + 16 * e.toNat + 32 * g.toNat)).getLsbD = [a, b, c, d, e, g] := by
  decide

/-- Bytes below 64 that agree on their six low bits are equal. -/
theorem eq_of_sixBits {x y : Byte} (hx : x.toNat < 64) (hy : y.toNat < 64)
    (h : [0, 1, 2, 3, 4, 5].map x.getLsbD = [0, 1, 2, 3, 4, 5].map y.getLsbD) : x = y := by
  have high (z : Byte) (hz : z.toNat < 64) {i : Nat} (hi : 6 ≤ i) : z.getLsbD i = false :=
    Nat.testBit_lt_two_pow (hz.trans_le (Nat.pow_le_pow_right (n := 2) (by decide) hi))
  refine BitVec.eq_of_getLsbD_eq fun i _ => ?_
  by_cases hi : 6 ≤ i
  · rw [high x hx hi, high y hy hi]
  · exact List.map_inj_left.mp h i (by simp; omega)

theorem Verdict.refused_iff (v : Verdict) : v.refused = true ↔ v ∈ [.noService, .badRequest, .aborted] := by
  cases v <;> decide

theorem Flight.answerFlags_eq {f : Flight} {p : InspectParams} {t : Ticket} {v : Verdict} {flags : Byte}
    (hsix : flags.toNat < 64) (himage : flags.getLsbD 0 = f.image.isSome) (hconsumed : flags.getLsbD 1 = f.consumed)
    (hgrace : flags.getLsbD 2 = f.grace) (hunchecked : flags.getLsbD 3 = f.timeUnchecked)
    (hclamped : flags.getLsbD 4 = (f.sane && decide (7 < t.fareClass)))
    (hoverride : flags.getLsbD 5 = decide (v ∉ [.noService, .badRequest, .aborted] ∧ p.override ≠ 0xFF)) :
    f.answerFlags p t v = flags := by
  obtain ⟨hlow, hbits⟩ := packedBits f.image.isSome f.consumed f.grace f.timeUnchecked
    (f.sane && decide (7 < t.fareClass)) (!v.refused && decide (p.override ≠ Config.absent))
  have hrefused : decide (v ∉ [.noService, .badRequest, .aborted] ∧ p.override ≠ 0xFF) =
      (!v.refused && decide (p.override ≠ Config.absent)) := by
    rw [Bool.decide_and, decide_not, ← Bool.decide_congr v.refused_iff, Bool.decide_eq_true]
  refine eq_of_sixBits hlow hsix (hbits.trans ?_)
  simp only [List.map_cons, List.map_nil, himage, hconsumed, hgrace, hunchecked, hclamped, hoverride, hrefused]

theorem Flight.classUsed_eq (f : Flight) (p : InspectParams) (t : Ticket) (v : Verdict) : f.classUsed p t v =
    if v ∈ [.noService, .badRequest, .aborted] then 0
    else if p.override ≠ 0xFF then p.override
    else if f.sane = true ∧ t.fareClass ≤ 7 then t.fareClass else 0 :=
  if_congr v.refused_iff rfl rfl

/-! ### The completion event -/

/-- The state of a completion before its cell is posted: the round list, the capture with FIRST_FAULT, and the engine
free with its counter. -/
def State.recorded (s : State) (f : Flight) (v : Verdict) : State :=
  { s with
    engine := { flight := none, counter := if v.marks then f.sequence else s.engine.counter }
    journey := { s.journey with capture :=
      if v.faultClass && s.journey.capture.isNone then some (s.captureRecord f v (s.amountDue f v))
      else s.journey.capture }
    rounds := (s.completedRounds f (s.ticket f.cell) v (s.amountDue f v)).1
    notice := { s.notice with flags :=
      if v.faultClass && s.journey.capture.isNone then s.notice.flags ||| EventFlag.firstFault.bit
      else s.notice.flags } }

/-- The answer that a completion posts. -/
abbrev State.dueAnswer (s : State) (f : Flight) (v : Verdict) : List Byte :=
  f.answer (s.inspectParams f.cell) (s.ticket f.cell) v (s.amountDue f v)
    (s.completedRounds f (s.ticket f.cell) v (s.amountDue f v)).2

theorem State.completeInspection_eq (s : State) (f : Flight) (v : Verdict) :
    s.completeInspection f v = ((s.recorded f v).post f.cell (s.dueAnswer f v) f.image).rewriteMirror := by
  unfold State.completeInspection State.fillCapture State.recorded
  dsimp only
  cases v.faultClass && s.journey.capture.isNone with
  | false => rfl
  | true => rfl

theorem exec_inspectCompletion {s : State} {f : Flight} {v : Verdict} (hflight : s.engine.flight = some f)
    (hstage : f.stage = .judged v) : exec .inspectCompletion s = (s.completeInspection f v).event := by
  show execInspectCompletion s = _
  unfold execInspectCompletion
  rw [hflight]
  dsimp only
  rw [hstage]

section
variable {s : State} (hs : s.memoryCanonical) (f : Flight) (v : Verdict)

theorem State.completeInspection_sameBytes (s : State) : s.sameBytesBut (s.completeInspection f v)
    (fun a => a = cellBase f.cell ∨ inAnswer f.cell a ∨ inMirror a ∨ (f.image.isSome ∧ inBody f.cell a)) := by
  rw [State.completeInspection_eq]
  have hpost : s.sameBytesBut ((s.recorded f v).post f.cell (s.dueAnswer f v) f.image) _ :=
    (s.recorded f v).post_sameBytesBut f.cell _ f.image
  exact (hpost.mono fun _ h => h.imp_right (Or.imp_right .inr)).trans
    ((State.rewriteMirror_sameBytesBut _).mono fun _ h => .inr (.inr (.inl h)))

include hs

theorem State.completeInspection_answers : (s.completeInspection f v).answers f.cell (s.dueAnswer f v) := by
  rw [State.completeInspection_eq]
  exact State.answers_congr (State.post_answers (s := s.recorded f v) hs f.cell _ f.image) fun a ha =>
    State.rewriteMirror_sameBytesBut _ a (not_inMirror_of_inCell ha)

theorem State.completeInspection_cellBody {img : List Byte} (himage : f.image = some img) (hlength : img.length = 32) :
    (s.completeInspection f v).cellBody f.cell = img := by
  rw [State.completeInspection_eq, himage]
  refine Eq.trans (Memory.readList_congr fun a ha ha' => ?_)
    (State.post_cellBody (s := s.recorded f v) hs f.cell (s.dueAnswer f v) img hlength)
  refine State.rewriteMirror_sameBytesBut _ a (not_inMirror_of_inCell (n := f.cell) ⟨by omega, ?_⟩)
  simp only [Config.bodyOffset, Config.bodySize, Config.cellSize] at ha' ⊢
  omega

end

theorem State.completeInspection_rounds_eq (s : State) (f : Flight) (v : Verdict) :
    (s.completeInspection f v).rounds = (s.completedRounds f (s.ticket f.cell) v (s.amountDue f v)).1 := by
  rw [State.completeInspection_eq, State.rewriteMirror_rounds, State.post_rounds]
  rfl

/-- An INSPECT cell made DONE holds the FIRST latch in FIRST mode (R191). -/
theorem NoticeUnit.cellChanged_inspect_done (u : NoticeUnit) (n : Fin 32) (old : CellState) :
    u.cellChanged n (some .inspect) old .done =
      { u with latch := if u.mode = AnswerMode.first ∧ u.latch = none then some n else u.latch }.withCounts
        (u.cellChanged n (some .inspect) old .done) := by
  simp [NoticeUnit.cellChanged, NoticeUnit.withCounts]

theorem State.post_frame_of_inspect (s : State) {n : Fin 32} (hk : s.kindOf n = some .inspect) (answer : List Byte)
    (body : Option (List Byte)) : ∃ m N, s.post n answer body = { s with
      mem := m
      notice := { s.notice with latch :=
        if s.notice.mode = AnswerMode.first ∧ s.notice.latch = none then some n else s.notice.latch }.withCounts N } := by
  have hnotice := s.post_notice n answer body
  rw [hk, NoticeUnit.cellChanged_inspect_done] at hnotice
  refine ⟨(s.post n answer body).mem, s.notice.cellChanged n (some .inspect) (s.cellState n) .done, ?_⟩
  rw [← hnotice]
  cases body with
  | none => rfl
  | some img => rfl

theorem State.completeInspection_frame_of_inspect {s : State} {f : Flight} (hk : s.kindOf f.cell = some .inspect)
    (v : Verdict) : ∃ m N, s.completeInspection f v = { s.recorded f v with
      mem := m
      notice := { (s.recorded f v).notice with
        latch := if s.notice.mode = AnswerMode.first ∧ s.notice.latch = none then some f.cell
          else s.notice.latch }.withCounts N } := by
  have hk' : (s.recorded f v).kindOf f.cell = some .inspect := hk
  obtain ⟨m, N, h⟩ := (s.recorded f v).post_frame_of_inspect hk' (s.dueAnswer f v) f.image
  rw [State.completeInspection_eq, State.rewriteMirror_eq, h]
  generalize (State.rewriteMirror _).mem = m
  exact ⟨m, N, rfl⟩

/-- Settles O34: the answer with its class and flags byte, the image in the body, and what the event leaves. -/
theorem inspectCompletionPosts : Obligations.InspectCompletionPosts := by
  unfold Obligations.InspectCompletionPosts
  rintro s f v k cls flags hs hflight hstage hk rfl rfl hsix himage hconsumed hgrace hunchecked hclamped hoverride
  have hanswer := State.completeInspection_answers hs f v
  have hbytes := State.completeInspection_sameBytes f v s
  have hbody {img : List Byte} := State.completeInspection_cellBody hs f v (img := img)
  obtain ⟨hother, -⟩ := State.flag_of_raised (s.completeInspection_capture f v).2
  obtain ⟨m, N, h⟩ := State.completeInspection_frame_of_inspect hk v
  rw [State.dueAnswer, State.amountDue, Flight.answer,
    Flight.answerFlags_eq hsix himage hconsumed hgrace hunchecked hclamped hoverride, Flight.classUsed_eq] at hanswer
  rw [exec_inspectCompletion hflight hstage]
  generalize s.completeInspection f v = u at hanswer hbytes hbody hother h ⊢
  refine ⟨_, _, rfl, ?_, hother.event, State.answers.event hanswer, fun img => hbody, hbytes.event⟩
  have hcounter : (if v ∈ [.valid, .validGrace, .shortfall] then f.sequence else s.engine.counter) =
      if v.marks then f.sequence else s.engine.counter := if_congr v.marks_iff.symm rfl rfl
  rw [hcounter, h]
  rfl

/-! ### The round list and the capture (R31, R32, R136) -/

theorem Verdict.inserted_iff (v : Verdict) : v.inserted = true ↔
    v ∈ [.revoked, .notYetValid, .expired, .exhausted, .noCover, .shortfall, .valid, .validGrace] := by
  cases v <;> decide

theorem Verdict.faultClass_iff (v : Verdict) : v.faultClass = true ↔
    v ∈ [.shortfall, .noCover, .expired, .notYetValid, .exhausted, .revoked, .passback, .unreadable, .notAccepted] := by
  cases v <;> decide

section
variable {s : State} {f : Flight} {v : Verdict} {t : Ticket} {amount : Nat}

theorem State.completedRounds_of_not_inserted (h : v.inserted = false) :
    s.completedRounds f t v amount = (s.rounds, f.presented) := by
  rw [State.completedRounds, h]
  rfl

theorem State.completedRounds_of_earlier (h : v.inserted = true) (hround : f.snap.round ≠ s.journey.round) :
    s.completedRounds f t v amount = (s.rounds, 0) := by
  rw [State.completedRounds, if_pos h, if_neg hround]

theorem State.completedRounds_of_present (h : v.inserted = true) (hround : f.snap.round = s.journey.round)
    {e : RoundEntry} (hfound : roundEntry s.rounds t.mediaId = some e) :
    s.completedRounds f t v amount = (raisePresented s.rounds t.mediaId, raisedCount e.presented) := by
  rw [State.completedRounds, if_pos h, if_pos hround, roundInsert]
  dsimp only
  rw [hfound]

theorem State.completedRounds_of_absent (h : v.inserted = true) (hround : f.snap.round = s.journey.round)
    (hmissing : roundEntry s.rounds t.mediaId = none) : s.completedRounds f t v amount =
      ((if s.rounds.length < 256 then s.rounds else s.rounds.tail) ++ [{
        mediaId := t.mediaId, verdict := v, amount := amount, consumed := f.consumed, sequence := f.sequence,
        presented := 1 }], 1) := by
  rw [State.completedRounds, if_pos h, if_pos hround, roundInsert]
  dsimp only
  rw [hmissing, ← ite_not]
  simp only [roundAppend, Config.roundListSize, Nat.not_lt]

end

/-- The presented count and the amount as the answer shows them. -/
theorem State.answered_inspection {s : State} (hs : s.memoryCanonical) (f : Flight) (v : Verdict) :
    (s.completeInspection f v).cellByte f.cell 58 =
      byteOf (s.completedRounds f (s.ticket f.cell) v (s.amountDue f v)).2 ∧
    le16 (s.amountDue f v) =
      [(s.completeInspection f v).cellByte f.cell 42, (s.completeInspection f v).cellByte f.cell 43] := by
  obtain ⟨-, hbytes⟩ := State.completeInspection_answers hs f v
  have hlow := hbytes 2 (by decide)
  have hhigh := hbytes 3 (by decide)
  exact ⟨hbytes 18 (by decide), by rw [hlow, hhigh]; rfl⟩

/-- Settles O35: the round list by the verdict and the round of the inspection, the capture by its state. -/
theorem inspectCompletionRecords : Obligations.InspectCompletionRecords := by
  unfold Obligations.InspectCompletionRecords
  refine ⟨?_, fun s f v fault hs hflight hstage hfault => ?_⟩
  · rintro s f v media inserted hs hflight hstage rfl hinserted
    obtain rfl : v.inserted = inserted := Bool.eq_iff_iff.mpr (v.inserted_iff.trans hinserted.symm)
    have hrounds := s.completeInspection_rounds_eq f v
    obtain ⟨hpresented, hamount⟩ := State.answered_inspection hs f v
    rw [exec_inspectCompletion hflight hstage]
    generalize s.completeInspection f v = u at hrounds hpresented hamount ⊢
    refine ⟨_, rfl, fun hnot => ?_, fun h hround => ?_, fun e hrevoked hround hfound => ?_, fun h hround hmissing => ?_⟩
    · rw [State.completedRounds_of_not_inserted hnot] at hrounds hpresented
      exact ⟨hrounds, hpresented⟩
    · rw [State.completedRounds_of_earlier h hround] at hrounds hpresented
      exact ⟨hrounds, hpresented⟩
    · rw [State.completedRounds_of_present (by rw [hrevoked]; rfl) hround hfound] at hrounds hpresented
      exact ⟨hrounds, hpresented⟩
    · rw [State.completedRounds_of_absent h hround hmissing] at hrounds hpresented
      exact ⟨_, hrounds, rfl, rfl, rfl, rfl, rfl, hamount, hpresented⟩
  · obtain rfl : v.faultClass = fault := Bool.eq_iff_iff.mpr (v.faultClass_iff.trans hfault.symm)
    obtain ⟨hcapture, hflags⟩ := s.completeInspection_capture f v
    obtain ⟨-, hraised⟩ := State.flag_of_raised hflags
    obtain ⟨-, hamount⟩ := State.answered_inspection hs f v
    rw [exec_inspectCompletion hflight hstage]
    generalize s.completeInspection f v = u at hcapture hflags hraised hamount ⊢
    refine ⟨_, rfl, fun hclass harmed => ?_, fun hrefuses => ?_⟩
    · have hfills : (v.faultClass && s.journey.capture.isNone) = true := by rw [hclass, harmed]; rfl
      rw [if_pos hfills] at hcapture
      refine ⟨?_, _, hcapture, rfl, rfl, rfl, rfl, rfl, rfl, rfl, rfl, hamount⟩
      exact hraised.trans (by rw [decide_eq_true hfills, Bool.or_true])
    · have hholds : ¬ (v.faultClass && s.journey.capture.isNone) = true := by
        rw [Bool.and_eq_true, Option.isNone_iff_eq_none]
        rintro ⟨hclass, harmed⟩
        rcases hrefuses with h | h
        · rw [h] at hclass
          cases hclass
        · exact h harmed
      rw [if_neg hholds] at hcapture hflags
      exact ⟨hcapture, hflags⟩

end Sys2Proof.Machine
end
